-- ==== Sys2Proof/Word.lean ====
section
/-! DEFINITION. The widths the spec gives its values (spec/00_scope.md, section 5, Types). -/

namespace Sys2Proof

/-- `u8`: a payload byte, a command code, a tag. -/
abbrev Byte := BitVec 8

/-- `u16`: a scalar `v16`, a length, a checksum. -/
abbrev Half := BitVec 16

/-- `u32` (and the bits of an `i32`): a serial, a version, a scalar `v32`. -/
abbrev Word := BitVec 32

/-- `u29`: the addressing identifier of a frame (R45). -/
abbrev Ident := BitVec 29

end Sys2Proof
end

