-- ==== Sys2Proof/Config.lean ====
section
/-! DEFINITION. The configuration record `CFG` of spec/00_scope.md R2: the parameters of one module, the constants the
source prints, and the free values the spec leaves open. -/

namespace Sys2Proof

/-- The 22 command names of R48, in the order of its table. -/
inductive CommandName where
  | identifyLed
  | identifyUnknownExtensions
  | extensionOffline
  | parkExtension
  | syncTicks
  | softwareUpdateInit
  | rebootAll
  | softwareUpdateVerify
  | softwareUpdatePageCrc
  | muteAll
  | identify
  | alive
  | ledFlashPosition
  | aliveReply
  | linkDiagnosisRequest
  | linkDiagnosisReply
  | startRequest
  | bcAck
  | bcNak
  | fragmentedPackage
  | fragmentedLargeHeader
  | fragmentedLargeData
deriving DecidableEq, Repr

/-- Every command name, in the order of R48's table. -/
def CommandName.all : List CommandName :=
  [.identifyLed, .identifyUnknownExtensions, .extensionOffline, .parkExtension, .syncTicks, .softwareUpdateInit, .rebootAll, .softwareUpdateVerify,
   .softwareUpdatePageCrc, .muteAll, .identify, .alive, .ledFlashPosition, .aliveReply, .linkDiagnosisRequest,
   .linkDiagnosisReply, .startRequest, .bcAck, .bcNak, .fragmentedPackage, .fragmentedLargeHeader, .fragmentedLargeData]

/-- The parameter `CC` of R2 and R48: one 8-bit code for each command name. -/
structure CommandCodes where
  /-- `CC(identify_LED)` -/
  identifyLed : Byte
  /-- `CC(identify_unknown_extensions)` -/
  identifyUnknownExtensions : Byte
  /-- `CC(extension_offline)` -/
  extensionOffline : Byte
  /-- `CC(park_extension)` -/
  parkExtension : Byte
  /-- `CC(sync_ticks)` -/
  syncTicks : Byte
  /-- `CC(software_update_init)` -/
  softwareUpdateInit : Byte
  /-- `CC(reboot_all)` -/
  rebootAll : Byte
  /-- `CC(software_update_verify)` -/
  softwareUpdateVerify : Byte
  /-- `CC(software_update_page_crc)` -/
  softwareUpdatePageCrc : Byte
  /-- `CC(mute_all)` -/
  muteAll : Byte
  /-- `CC(identify)` -/
  identify : Byte
  /-- `CC(alive)` -/
  alive : Byte
  /-- `CC(LED_flash_position)` -/
  ledFlashPosition : Byte
  /-- `CC(alive_reply)` -/
  aliveReply : Byte
  /-- `CC(LinkDiagnosis_request)` -/
  linkDiagnosisRequest : Byte
  /-- `CC(LinkDiagnosis_reply)` -/
  linkDiagnosisReply : Byte
  /-- `CC(start_request)` -/
  startRequest : Byte
  /-- `CC(BC_ACK)` -/
  bcAck : Byte
  /-- `CC(BC_NAK)` -/
  bcNak : Byte
  /-- `CC(fragmented_package)` -/
  fragmentedPackage : Byte
  /-- `CC(fragmented_large_header)` -/
  fragmentedLargeHeader : Byte
  /-- `CC(fragmented_large_data)` -/
  fragmentedLargeData : Byte
deriving DecidableEq, Repr

/-- `CC(name)` (R48). -/
def CommandCodes.code (cc : CommandCodes) : CommandName → Byte
  | .identifyLed => cc.identifyLed
  | .identifyUnknownExtensions => cc.identifyUnknownExtensions
  | .extensionOffline => cc.extensionOffline
  | .parkExtension => cc.parkExtension
  | .syncTicks => cc.syncTicks
  | .softwareUpdateInit => cc.softwareUpdateInit
  | .rebootAll => cc.rebootAll
  | .softwareUpdateVerify => cc.softwareUpdateVerify
  | .softwareUpdatePageCrc => cc.softwareUpdatePageCrc
  | .muteAll => cc.muteAll
  | .identify => cc.identify
  | .alive => cc.alive
  | .ledFlashPosition => cc.ledFlashPosition
  | .aliveReply => cc.aliveReply
  | .linkDiagnosisRequest => cc.linkDiagnosisRequest
  | .linkDiagnosisReply => cc.linkDiagnosisReply
  | .startRequest => cc.startRequest
  | .bcAck => cc.bcAck
  | .bcNak => cc.bcNak
  | .fragmentedPackage => cc.fragmentedPackage
  | .fragmentedLargeHeader => cc.fragmentedLargeHeader
  | .fragmentedLargeData => cc.fragmentedLargeData

/-- The placeholder assignment of R48's default column: the spec's own, and no claim about any deployed controller.
DESIGN CHOICE (log 3), unsafe where a statement rests on it: none does. -/
def CommandCodes.placeholder : CommandCodes where
  identifyLed := 0x01#8
  identifyUnknownExtensions := 0x02#8
  extensionOffline := 0x03#8
  parkExtension := 0x04#8
  syncTicks := 0x05#8
  softwareUpdateInit := 0x06#8
  rebootAll := 0x07#8
  softwareUpdateVerify := 0x08#8
  softwareUpdatePageCrc := 0x09#8
  muteAll := 0x0A#8
  identify := 0x0B#8
  alive := 0x0C#8
  ledFlashPosition := 0x0D#8
  aliveReply := 0x0E#8
  linkDiagnosisRequest := 0x0F#8
  linkDiagnosisReply := 0x10#8
  startRequest := 0x11#8
  bcAck := 0x12#8
  bcNak := 0x13#8
  fragmentedPackage := 0x14#8
  fragmentedLargeHeader := 0x15#8
  fragmentedLargeData := 0x16#8

/-- The pulse kinds of R66, a closed set. -/
inductive PulseKind where
  | orphaned
  | identify
  | alive
  | aliveReply
  | mute
deriving DecidableEq, Repr

/-- The parameter `PULSE_COLOR` of R2 and R66: the indicator's colour argument for each pulse kind. The spec states no
width for a colour, so a colour is a natural number. -/
structure PulseColors where
  orphaned : Nat
  identify : Nat
  alive : Nat
  aliveReply : Nat
  mute : Nat
deriving DecidableEq, Repr

/-- `PULSE_COLOR(K)` (R66). -/
def PulseColors.color (pc : PulseColors) : PulseKind → Nat
  | .orphaned => pc.orphaned
  | .identify => pc.identify
  | .alive => pc.alive
  | .aliveReply => pc.aliveReply
  | .mute => pc.mute

/-- The configuration record `CFG` (R2). Every field is a constant of the module but `fwVersion`, which is constant
from one `BOOT` to the next. -/
structure Cfg where
  /-- `SERIAL`, the device identity (R11). -/
  serial : Word
  /-- `DEVICE_TYPE`, the device class (R12). -/
  deviceType : Byte
  /-- `HW_VERSION` (R13). -/
  hwVersion : Byte
  /-- `FW_VERSION` (R14); the one field a later `BOOT` of a module may change. -/
  fwVersion : Word
  /-- `CRC_CAP`, the capacity of the CRC page array (R22). -/
  crcCap : Nat
  /-- `CC`, the command codes (R48). -/
  cc : CommandCodes
  /-- `TAG_EXT_PAGE_CRC`, the tag that is exempt from the online gate (R121). -/
  tagExtPageCrc : Byte
  /-- `TX_CMDDIR`, the command direction of every outbound frame (R50, R59). -/
  txCmddir : BitVec 1
  /-- `PAD`, the fill of a last data fragment (R55, R57). -/
  pad : Byte
  /-- `OFFLINE_ON_PARK`, whether the orphan procedure sets the state to Offline (R100). -/
  offlineOnPark : Bool
  /-- `PULSE_COLOR` (R66). -/
  pulseColor : PulseColors
deriving DecidableEq, Repr

/-- A well formed configuration (R2): a premise of claims about interoperation, never a condition of a rule. -/
abbrev Cfg.wellFormed (cfg : Cfg) : Prop :=
  cfg.serial.toNat < 2 ^ 28 ∧ cfg.serial ≠ 0#32 ∧ 1 ≤ cfg.crcCap ∧ (CommandName.all.map cfg.cc.code).Nodup

/-- The test configuration `TC0` of spec/95_test_vectors.md, section 1. `State.reset` takes it for its `CFG`.
DESIGN CHOICE (log 2, log 14), unsafe where a statement rests on it. -/
def Cfg.tc0 : Cfg where
  serial := 0x00012345#32
  deviceType := 0x01#8
  hwVersion := 0x01#8
  fwVersion := 0x0A000000#32
  crcCap := 64
  cc := CommandCodes.placeholder
  tagExtPageCrc := 0x01#8
  txCmddir := 0#1
  pad := 0x00#8
  offlineOnPark := true
  pulseColor :=
    { orphaned := 0, identify := 1, alive := 2, aliveReply := 3, mute := 4 }

namespace Config

/-- `TICK_MS` (R2): milliseconds one tick stands for. -/
def tickMs : Nat := 10

/-- `FORCE_MARKER` (R2, R147). -/
def forceMarker : Half := 0xDEAD#16

/-- `SMALL_MAX` (R2, R124): the most bytes of a small-tier transfer. -/
def smallMax : Nat := 1530

/-- `LARGE_MAX` (R2, R124): the most bytes of a large-tier transfer. -/
def largeMax : Nat := 65535

/-- `JITTER_MASK` (R2, R111). -/
def jitterMask : Word := 0x3F#32

/-- `BASE_SECONDS` (R2, R111). -/
def baseSeconds : Nat := 360

/-- `CRC_W` (R2, R22; decided 32 by D13): the width of one CRC entry. -/
def crcWidth : Nat := 32

/-- FREE VALUE (log 5): what `DEV.countdown` reads as when a `TICK` reads it before anything has written it. R29 gives
it no value and R117 says no run performs that read. It has no body: nothing can be proved of it. DESIGN CHOICE, safe. -/
opaque unwrittenCountdown : Nat → Word

end Config

end Sys2Proof
end

