-- ==== Sys2Proof/Syntax.lean ====
section
/-! DEFINITION. The words of the machine: the frame records (spec/30_encoding.md R45), the stimuli a step handles
(spec/00_scope.md R3, R6) and the instructions, one constructor for each row of spec/opcode_table.json. -/

namespace Sys2Proof

/-- The payload `P[0] .. P[6]` (R45). -/
structure Payload where
  p0 : Byte
  p1 : Byte
  p2 : Byte
  p3 : Byte
  p4 : Byte
  p5 : Byte
  p6 : Byte
deriving DecidableEq, Repr

/-- The direction of a frame (R45); port value 1 is `TO_DEVICE`, 0 is `FROM_DEVICE`. -/
inductive Dir where
  | toDevice
  | fromDevice
deriving DecidableEq, Repr

/-- An inbound frame, the operand of `RX` (R45, R6). `dir` and `isNat` are inputs of their own (R47). -/
structure RxFrame where
  ident : Ident
  dir : Dir
  isNat : Bool
  cmd : Byte
  cmddir : BitVec 1
  p : Payload
deriving DecidableEq, Repr

/-- An outbound frame, the operand of `TX` (R45, R6). -/
structure OutFrame where
  ident : Ident
  dir : Dir
  cmd : Byte
  cmddir : BitVec 1
  p : Payload
deriving DecidableEq, Repr

/-- The three `ERRCNT` samples (R6, R41) that the step of an `RX` stimulus would take: free inputs of that step
(log 6). -/
structure ErrCounts where
  rxErr : Word
  txErr : Word
  totErr : Word
deriving DecidableEq, Repr

/-- The stimuli (R3, R6, R160). -/
inductive Stimulus where
  | tick
  | rx (f : RxFrame) (e : ErrCounts)
  | frag (tag : Byte) (byteCount : Word) (buf : List Byte)
  | boot (cfg : Cfg)
deriving DecidableEq, Repr

/-- The instructions: one constructor for each row of spec/opcode_table.json, in its order. The operands are those of
R58 and of the table's source_fields; the ignored rows carry the identifier or the command that their selection
compares and no meaning reads it (log 17). -/
inductive Instr where
  /-- HALTED.any (R23) -/
  | haltedAny
  /-- RX.discard.nat (R71) -/
  | rxDiscardNat
  /-- RX.discard.from (R71) -/
  | rxDiscardFrom (ident : Ident)
  /-- BA.identify_LED (R86) -/
  | baIdentifyLed
  /-- BA.identify_unknown_extensions (R87) -/
  | baIdentifyUnknownExtensions
  /-- BA.extension_offline (R88) -/
  | baExtensionOffline
  /-- BA.park_extension (R89) -/
  | baParkExtension
  /-- BA.sync_ticks (R90): the time-sync value, `v32` -/
  | baSyncTicks (value : Word)
  /-- BA.other (R74) -/
  | baOther (cmd : Byte)
  /-- BT.software_update_init (R141): announced hardware version `v8`, force marker `v16`, announced version `v32` -/
  | btSoftwareUpdateInit (hw : Byte) (marker : Half) (version : Word)
  /-- BT.reboot_all (R142): force marker `v16`, announced version `v32` -/
  | btRebootAll (marker : Half) (version : Word)
  /-- BT.software_update_verify (R143): force marker `v16`, candidate version `v32` -/
  | btSoftwareUpdateVerify (marker : Half) (candidate : Word)
  /-- BT.software_update_page_crc (R144): page index `v16`, page CRC `v32` -/
  | btSoftwareUpdatePageCrc (page : Half) (crc : Word)
  /-- BT.mute_all (R145) -/
  | btMuteAll
  /-- BT.other (R74) -/
  | btOther (cmd : Byte)
  /-- UC.identify (R91) -/
  | ucIdentify
  /-- UC.identify_LED (R92) -/
  | ucIdentifyLed
  /-- UC.alive (R93) -/
  | ucAlive
  /-- UC.extension_offline (R94) -/
  | ucExtensionOffline
  /-- UC.park_extension (R95) -/
  | ucParkExtension
  /-- UC.LED_flash_position (R96): the synchronisation offset, `v32` -/
  | ucLedFlashPosition (offset : Word)
  /-- UC.alive_reply (R97) -/
  | ucAliveReply
  /-- UC.LinkDiagnosis_request (R98): the three `ERRCNT` samples -/
  | ucLinkDiagnosisRequest (rxErr txErr totErr : Word)
  /-- UC.mute_all (R99) -/
  | ucMuteAll
  /-- UC.other (R74) -/
  | ucOther (cmd : Byte)
  /-- FD.any (R75) -/
  | fdAny (cmd : Byte)
  /-- FW.any (R76): the whole frame, passed on unread -/
  | fwAny (f : RxFrame)
  /-- RX.unmatched (R77) -/
  | rxUnmatched (ident : Ident)
  /-- TICK (R112) -/
  | tick
  /-- FRAG.refuse.state (R121) -/
  | fragRefuseState (tag : Byte) (byteCount : Word) (buf : List Byte)
  /-- FRAG.refuse.size (R122) -/
  | fragRefuseSize (tag : Byte) (byteCount : Word) (buf : List Byte)
  /-- FRAG.small (R125) -/
  | fragSmall (tag : Byte) (byteCount : Word) (buf : List Byte)
  /-- FRAG.large (R126) -/
  | fragLarge (tag : Byte) (byteCount : Word) (buf : List Byte)
  /-- BOOT (R180) -/
  | boot (cfg : Cfg)
  /-- TX.start_request (R51) -/
  | txStartRequest
  /-- TX.alive (R51) -/
  | txAlive
  /-- TX.alive_reply (R51) -/
  | txAliveReply
  /-- TX.LinkDiagnosis_reply (R52): `v8`, `v16`, `v32` -/
  | txLinkDiagnosisReply (rxErr : Byte) (txErr : Half) (totErr : Word)
  /-- TX.BC_ACK (R53) -/
  | txBcAck
  /-- TX.BC_NAK (R53) -/
  | txBcNak
  /-- TX.fragment_small_header (R54): tag, length `L`, checksum `K` -/
  | txFragmentSmallHeader (tag : Byte) (len : Half) (sum : Half)
  /-- TX.fragment_small_data (R55): index `P[0]`, then `P[1] .. P[6]` -/
  | txFragmentSmallData (index : Byte) (d0 d1 d2 d3 d4 d5 : Byte)
  /-- TX.fragment_large_header (R56): tag, length `L`, checksum `K` -/
  | txFragmentLargeHeader (tag : Byte) (len : Half) (sum : Half)
  /-- TX.fragment_large_data (R57): `P[0] .. P[6]` -/
  | txFragmentLargeData (p : Payload)
deriving DecidableEq, Repr

/-- What the selection of an instruction reads beside the stimulus (R65, R78, R120): the configuration, `DEV.halted`, and
whether `DEV.state` is Online. -/
structure Context where
  cfg : Cfg
  halted : Bool
  online : Bool
deriving DecidableEq, Repr

end Sys2Proof
end

