-- ==== Sys2Proof/Machine/Frames.lean ====
section
/-! DEFINITION. The scalar views of a payload, the builders of outbound frames and the outbound formats
(spec/30_encoding.md R46, R50 to R57), the checksum and the fragment lists (spec/43_fragmentation.md R123, R125, R126). -/

namespace Sys2Proof

/-- `v8 = P[0]` (R46). -/
def Payload.v8 (p : Payload) : Byte := p.p0

/-- `v16 = P[1] | P[2] << 8` (R46): the byte at the lower index is the less significant (R31). -/
def Payload.v16 (p : Payload) : Half := p.p2 ++ p.p1

/-- `v32 = P[3] | P[4] << 8 | P[5] << 16 | P[6] << 24` (R46). -/
def Payload.v32 (p : Payload) : Word := p.p6 ++ p.p5 ++ p.p4 ++ p.p3

/-- Byte `i` of a 16-bit value, byte 0 the least significant. -/
def halfByte (v : Half) (i : Nat) : Byte := v.extractLsb' (8 * i) 8

/-- Byte `i` of a 32-bit value, byte 0 the least significant. -/
def wordByte (v : Word) (i : Nat) : Byte := v.extractLsb' (8 * i) 8

/-- The payload whose three scalars are given (R46, the payload of `mkframe`). -/
def Payload.ofScalars (a8 : Byte) (a16 : Half) (a32 : Word) : Payload where
  p0 := a8
  p1 := halfByte a16 0
  p2 := halfByte a16 1
  p3 := wordByte a32 0
  p4 := wordByte a32 1
  p5 := wordByte a32 2
  p6 := wordByte a32 3

/-- `mkpayload` (R46): the outbound frame of R50 with the given command and payload. -/
def mkpayload (cfg : Cfg) (c : CommandName) (p : Payload) : OutFrame where
  ident := cfg.serial.setWidth 29
  dir := .fromDevice
  cmd := cfg.cc.code c
  cmddir := cfg.txCmddir
  p := p

/-- `mkframe` (R46): the outbound frame with the given command and scalars. -/
def mkframe (cfg : Cfg) (c : CommandName) (a8 : Byte) (a16 : Half) (a32 : Word) : OutFrame :=
  mkpayload cfg c (Payload.ofScalars a8 a16 a32)

/-- The heartbeat's payload (R51, R113). -/
def heartbeatPayload (cfg : Cfg) : Payload := Payload.ofScalars cfg.hwVersion 0#16 cfg.fwVersion

/-- The heartbeat format (R51), for `start_request`, `alive` and `alive_reply`. -/
def heartbeatFrame (cfg : Cfg) (c : CommandName) : OutFrame := mkpayload cfg c (heartbeatPayload cfg)

/-- The link-diagnosis reply format (R52), its three scalars already narrowed. -/
def diagnosisFrame (cfg : Cfg) (rxErr : Byte) (txErr : Half) (totErr : Word) : OutFrame :=
  mkframe cfg .linkDiagnosisReply rxErr txErr totErr

/-- The ACK format (R53). -/
def ackFrame (cfg : Cfg) : OutFrame := mkframe cfg .bcAck 0#8 0#16 0#32

/-- The NAK format (R53). -/
def nakFrame (cfg : Cfg) : OutFrame := mkframe cfg .bcNak 0#8 0#16 0#32

/-- The payload of a fragment header of either tier (R54, R56): reserved zeros at `P[0]` and `P[2]`, length and checksum
little-endian. -/
def headerPayload (tag : Byte) (len sum : Half) : Payload where
  p0 := 0#8
  p1 := tag
  p2 := 0#8
  p3 := halfByte len 0
  p4 := halfByte len 1
  p5 := halfByte sum 0
  p6 := halfByte sum 1

/-- The small-tier header (R54). -/
def smallHeaderFrame (cfg : Cfg) (tag : Byte) (len sum : Half) : OutFrame :=
  mkpayload cfg .fragmentedPackage (headerPayload tag len sum)

/-- A small-tier data fragment (R55) with its index and its six bytes. -/
def smallDataFrame (cfg : Cfg) (index d0 d1 d2 d3 d4 d5 : Byte) : OutFrame :=
  mkpayload cfg .fragmentedPackage
    { p0 := index, p1 := d0, p2 := d1, p3 := d2, p4 := d3, p5 := d4, p6 := d5 }

/-- The large-tier header (R56). -/
def largeHeaderFrame (cfg : Cfg) (tag : Byte) (len sum : Half) : OutFrame :=
  mkpayload cfg .fragmentedLargeHeader (headerPayload tag len sum)

/-- A large-tier data fragment (R57): seven bytes and no index. -/
def largeDataFrame (cfg : Cfg) (p : Payload) : OutFrame := mkpayload cfg .fragmentedLargeData p

/-- `checksum(buf, L)` (R123): the 16-bit running sum of the first `L` bytes. -/
def checksum (buf : List Byte) (len : Nat) : Half :=
  (buf.take len).foldl (fun k b => k + b.setWidth 16) 0#16

/-- `ceil(a / b)` (spec/00_scope.md, section 5, Operators). -/
def ceilDiv (a b : Nat) : Nat := (a + b - 1) / b

/-- Data byte `j` of a fragment that carries `width` bytes from offset `off` of a transfer of `len` bytes (R55, R57): a byte of
the buffer below `min(width, len - off)`, the pad above. -/
def fragmentByte (cfg : Cfg) (len : Nat) (buf : List Byte) (width off j : Nat) : Byte :=
  if j < min width (len - off) then (buf.drop off).getD j 0#8 else cfg.pad

/-- Small-tier data fragment number `i` of a transfer (R55, R125), `i` counted from 1. -/
def smallFragment (cfg : Cfg) (len : Nat) (buf : List Byte) (i : Nat) : OutFrame :=
  let at' := fragmentByte cfg len buf 6 (6 * (i - 1))
  smallDataFrame cfg (BitVec.ofNat 8 i) (at' 0) (at' 1) (at' 2) (at' 3) (at' 4) (at' 5)

/-- Large-tier data fragment number `i` of a transfer (R57, R126), `i` counted from 1. -/
def largeFragment (cfg : Cfg) (len : Nat) (buf : List Byte) (i : Nat) : OutFrame :=
  let at' := fragmentByte cfg len buf 7 (7 * (i - 1))
  largeDataFrame cfg
    { p0 := at' 0, p1 := at' 1, p2 := at' 2, p3 := at' 3, p4 := at' 4, p5 := at' 5, p6 := at' 6 }

/-- The frames of `FRAG.small(t, L, K, buf)` (R125): the header, then the data fragments in ascending order. -/
def smallFrames (cfg : Cfg) (tag : Byte) (len : Nat) (buf : List Byte) : List OutFrame :=
  smallHeaderFrame cfg tag (BitVec.ofNat 16 len) (checksum buf len) ::
    (List.range (ceilDiv len 6)).map (fun k => smallFragment cfg len buf (k + 1))

/-- The frames of `FRAG.large(t, L, K, buf)` (R126): the header, then the data fragments in ascending order. -/
def largeFrames (cfg : Cfg) (tag : Byte) (len : Nat) (buf : List Byte) : List OutFrame :=
  largeHeaderFrame cfg tag (BitVec.ofNat 16 len) (checksum buf len) ::
    (List.range (ceilDiv len 7)).map (fun k => largeFragment cfg len buf (k + 1))

end Sys2Proof
end

