-- ==== Sys2Proof/Machine/Classify.lean ====
section
/-! DEFINITION. The Addressing Dispatcher's tests: discard (spec/40_dispatcher.md R71), classification (R72, spec/30_encoding.md
R49), the opcodes each handler lists (R74), and the gate of a fragmentation request (spec/43_fragmentation.md R121). -/

namespace Sys2Proof

/-- The five delivery categories (R49, R72). -/
inductive Category where
  | ba
  | bt
  | uc
  | fd
  | fw
deriving DecidableEq, Repr

/-- `discard(f)` (R71). -/
def discards (f : RxFrame) : Bool :=
  f.isNat || (f.ident != 0#29 && f.dir == .fromDevice)

/-- `id`, the identifier as a 32-bit value (R72). -/
def idWord (ident : Ident) : Word := ident.setWidth 32

/-- The comparand of form BT (R49). -/
def btComparand (cfg : Cfg) : Word := cfg.deviceType.setWidth 32 <<< 24

/-- The comparand of form UC (R49). -/
def ucComparand (cfg : Cfg) : Word := cfg.serial ||| 0x10000000#32

/-- The comparand of form FW (R49). -/
def fwComparand (cfg : Cfg) : Word := (cfg.deviceType.setWidth 32 <<< 16) ||| 0x1F000000#32

/-- `classify(ident)` (R72): the first form that holds, in listed order. -/
def classify (cfg : Cfg) (ident : Ident) : Option Category :=
  if idWord ident = 0#32 then some .ba
  else if idWord ident = btComparand cfg then some .bt
  else if idWord ident = ucComparand cfg then some .uc
  else if idWord ident = cfg.serial then some .fd
  else if idWord ident &&& 0x1FFF0000#32 = fwComparand cfg then some .fw
  else none

/-- The opcodes `H_BA` lists (R74). -/
def baNames : List CommandName :=
  [.identifyLed, .identifyUnknownExtensions, .extensionOffline, .parkExtension, .syncTicks]

/-- The opcodes `H_BT` lists (R74). -/
def btNames : List CommandName :=
  [.softwareUpdateInit, .rebootAll, .softwareUpdateVerify, .softwareUpdatePageCrc, .muteAll]

/-- The opcodes `H_UC` lists (R74). -/
def ucNames : List CommandName :=
  [.identify, .identifyLed, .alive, .extensionOffline, .parkExtension, .ledFlashPosition, .aliveReply,
   .linkDiagnosisRequest, .muteAll]

/-- The commands of the outbound formats (R51 to R57). -/
def txNames : List CommandName :=
  [.startRequest, .alive, .aliveReply, .linkDiagnosisReply, .bcAck, .bcNak, .fragmentedPackage, .fragmentedLargeHeader,
   .fragmentedLargeData]

/-- The listed name whose code is `cmd` (R74, `name_of` among the names a handler lists). Where `CC` is not injective the first
listed name wins (DESIGN CHOICE, log 12). -/
def nameAmong (cc : CommandCodes) (names : List CommandName) (cmd : Byte) : Option CommandName :=
  names.find? (fun n => cc.code n == cmd)

/-- The gate of R121: `DEV.state == Online or tag == TAG_EXT_PAGE_CRC`. -/
def fragGate (cfg : Cfg) (online : Bool) (tag : Byte) : Bool := online || tag == cfg.tagExtPageCrc

/-- The identifier of form BA. -/
def baIdent : Ident := 0#29

/-- The identifier that form BT compares with, cut to 29 bits. -/
def btIdent (cfg : Cfg) : Ident := (btComparand cfg).setWidth 29

/-- The identifier that form UC compares with, cut to 29 bits. -/
def ucIdent (cfg : Cfg) : Ident := (ucComparand cfg).setWidth 29

/-- The identifier that form FD compares with, cut to 29 bits. -/
def fdIdent (cfg : Cfg) : Ident := cfg.serial.setWidth 29

end Sys2Proof
end

