-- ==== Sys2Proof/WellFormed.lean ====
section
/-! DEFINITION. When an instruction is well formed in a context: some stimulus that the encoding can carry selects exactly it there
(spec/30_encoding.md R64, R65). It is a premise of the round trip of Decode.lean, never a condition of a meaning. -/

namespace Sys2Proof

/-- The opcode `n` of a handler that lists `names` is selected by its own code (R74). -/
def namedBy (cc : CommandCodes) (names : List CommandName) (n : CommandName) : Bool :=
  nameAmong cc names (cc.code n) == some n

/-- An opcode row of category BA: the block is running and the opcode's code selects it. (Form BA is tested first, so identifier
0 always reaches it.) -/
def wfBa (ctx : Context) (n : CommandName) : Bool := !ctx.halted && namedBy ctx.cfg.cc baNames n

/-- The identifier of form BT reaches category BT (R72). -/
def reachesBt (ctx : Context) : Bool := !ctx.halted && classify ctx.cfg (btIdent ctx.cfg) == some .bt

/-- An opcode row of category BT. -/
def wfBt (ctx : Context) (n : CommandName) : Bool := reachesBt ctx && namedBy ctx.cfg.cc btNames n

/-- The identifier of form UC reaches category UC (R72). -/
def reachesUc (ctx : Context) : Bool := !ctx.halted && classify ctx.cfg (ucIdent ctx.cfg) == some .uc

/-- An opcode row of category UC. -/
def wfUc (ctx : Context) (n : CommandName) : Bool := reachesUc ctx && namedBy ctx.cfg.cc ucNames n

/-- A fragmentation request the wire can carry: the buffer's length fits its 32-bit count (log 7). -/
def wfBuffer (buf : List Byte) : Bool := decide (buf.length < 2 ^ 32)

/-- A configuration the wire can carry: the unbounded numbers fit 32 bits (log 7). -/
def wfCfg (cfg : Cfg) : Bool :=
  decide (cfg.crcCap < 2 ^ 32) && decide (cfg.pulseColor.orphaned < 2 ^ 32) && decide (cfg.pulseColor.identify < 2 ^ 32) &&
    decide (cfg.pulseColor.alive < 2 ^ 32) && decide (cfg.pulseColor.aliveReply < 2 ^ 32) &&
    decide (cfg.pulseColor.mute < 2 ^ 32)

/-- An outbound format whose command is told apart by its code (R65). -/
def wfTx (ctx : Context) (n : CommandName) : Bool := namedBy ctx.cfg.cc txNames n

/-- The instruction is the one some stimulus selects in the context, or an outbound format the block builds. -/
def Instr.wf (ctx : Context) : Instr → Bool
  | .haltedAny => ctx.halted
  | .rxDiscardNat => !ctx.halted
  | .rxDiscardFrom ident => !ctx.halted && ident != 0#29
  | .baIdentifyLed => wfBa ctx .identifyLed
  | .baIdentifyUnknownExtensions => wfBa ctx .identifyUnknownExtensions
  | .baExtensionOffline => wfBa ctx .extensionOffline
  | .baParkExtension => wfBa ctx .parkExtension
  | .baSyncTicks _ => wfBa ctx .syncTicks
  | .baOther cmd => !ctx.halted && nameAmong ctx.cfg.cc baNames cmd == none
  | .btSoftwareUpdateInit _ _ _ => wfBt ctx .softwareUpdateInit
  | .btRebootAll _ _ => wfBt ctx .rebootAll
  | .btSoftwareUpdateVerify _ _ => wfBt ctx .softwareUpdateVerify
  | .btSoftwareUpdatePageCrc _ _ => wfBt ctx .softwareUpdatePageCrc
  | .btMuteAll => wfBt ctx .muteAll
  | .btOther cmd => reachesBt ctx && nameAmong ctx.cfg.cc btNames cmd == none
  | .ucIdentify => wfUc ctx .identify
  | .ucIdentifyLed => wfUc ctx .identifyLed
  | .ucAlive => wfUc ctx .alive
  | .ucExtensionOffline => wfUc ctx .extensionOffline
  | .ucParkExtension => wfUc ctx .parkExtension
  | .ucLedFlashPosition _ => wfUc ctx .ledFlashPosition
  | .ucAliveReply => wfUc ctx .aliveReply
  | .ucLinkDiagnosisRequest _ _ _ => wfUc ctx .linkDiagnosisRequest
  | .ucMuteAll => wfUc ctx .muteAll
  | .ucOther cmd => reachesUc ctx && nameAmong ctx.cfg.cc ucNames cmd == none
  | .fdAny _ => !ctx.halted && classify ctx.cfg (fdIdent ctx.cfg) == some .fd
  | .fwAny f => !ctx.halted && !discards f && classify ctx.cfg f.ident == some .fw
  | .rxUnmatched ident => !ctx.halted && classify ctx.cfg ident == none
  | .tick => !ctx.halted
  | .fragRefuseState tag _ buf => !ctx.halted && !fragGate ctx.cfg ctx.online tag && wfBuffer buf
  | .fragRefuseSize tag byteCount buf =>
      !ctx.halted && fragGate ctx.cfg ctx.online tag && decide (Config.largeMax < byteCount.toNat) && wfBuffer buf
  | .fragSmall tag byteCount buf =>
      !ctx.halted && fragGate ctx.cfg ctx.online tag && decide (byteCount.toNat ≤ Config.smallMax) && wfBuffer buf &&
        decide (byteCount.toNat ≤ buf.length)
  | .fragLarge tag byteCount buf =>
      !ctx.halted && fragGate ctx.cfg ctx.online tag && decide (Config.smallMax < byteCount.toNat) &&
        decide (byteCount.toNat ≤ Config.largeMax) && wfBuffer buf && decide (byteCount.toNat ≤ buf.length)
  | .boot cfg => wfCfg cfg
  | .txStartRequest => wfTx ctx .startRequest
  | .txAlive => wfTx ctx .alive
  | .txAliveReply => wfTx ctx .aliveReply
  | .txLinkDiagnosisReply _ _ _ => wfTx ctx .linkDiagnosisReply
  | .txBcAck => wfTx ctx .bcAck
  | .txBcNak => wfTx ctx .bcNak
  | .txFragmentSmallHeader _ len _ => wfTx ctx .fragmentedPackage && decide (len.toNat ≤ Config.smallMax)
  | .txFragmentSmallData index _ _ _ _ _ _ => wfTx ctx .fragmentedPackage && index != 0#8
  | .txFragmentLargeHeader _ len _ => wfTx ctx .fragmentedLargeHeader && decide (Config.smallMax < len.toNat)
  | .txFragmentLargeData _ => wfTx ctx .fragmentedLargeData

end Sys2Proof
end

