-- ==== Sys2Proof/Decode.lean ====
section
/-! DEFINITION. From bits to an instruction and back. The spec gives the block no instruction memory and no fetch (R24) and no
serial form of its port transactions (R6): the byte form below, one record for each transaction, is the MODEL's own
(DESIGN CHOICE, log 7). What is the spec's is the selection of the row (`select`, R65, R70 to R77, R120), total on every
stimulus, and the reading of an outbound frame by the table's TX rows (`decodeOutbound`, R65).

The records, first byte first; every number little-endian:
`00` TICK; `01` RX: ident(4) flags(1) cmd(1) P(7) rxErr(4) txErr(4) totErr(4), flags bit 0 = dir (1 is TO_DEVICE), bit 1 =
is_nat, bit 2 = cmddir; `02` FRAG: tag(1) byteCount(4) n(4) and n bytes of buffer; `03` BOOT: the fields of `CFG`;
`04` an outbound frame: ident(4) flags(1) cmd(1) P(7), flags bit 0 = dir, bit 1 = cmddir. -/

namespace Sys2Proof

/-- Why bytes are not the record of an instruction. -/
inductive DecodeError where
  /-- The bytes end inside a record. -/
  | truncated
  /-- No port has this number. -/
  | unknownPort (k : Byte)
  /-- A bit that the record fixes at zero is set. -/
  | reservedBits
  /-- An outbound record that is no frame this block builds (R50 to R57). -/
  | notOwnFrame
deriving DecidableEq, Repr

/-- What one record of bytes is: a stimulus, or an outbound frame of a trace. -/
inductive Record where
  | stimulus (st : Stimulus)
  | outbound (f : OutFrame)
deriving DecidableEq, Repr

/-! ### Selection of the row -/

/-- The opcode routing of `H_BA` (R74, R58). -/
def selectBa (cc : CommandCodes) (f : RxFrame) : Instr :=
  match nameAmong cc baNames f.cmd with
  | some .identifyLed => .baIdentifyLed
  | some .identifyUnknownExtensions => .baIdentifyUnknownExtensions
  | some .extensionOffline => .baExtensionOffline
  | some .parkExtension => .baParkExtension
  | some .syncTicks => .baSyncTicks f.p.v32
  | _ => .baOther f.cmd

/-- The opcode routing of `H_BT` (R74, R58). -/
def selectBt (cc : CommandCodes) (f : RxFrame) : Instr :=
  match nameAmong cc btNames f.cmd with
  | some .softwareUpdateInit => .btSoftwareUpdateInit f.p.v8 f.p.v16 f.p.v32
  | some .rebootAll => .btRebootAll f.p.v16 f.p.v32
  | some .softwareUpdateVerify => .btSoftwareUpdateVerify f.p.v16 f.p.v32
  | some .softwareUpdatePageCrc => .btSoftwareUpdatePageCrc f.p.v16 f.p.v32
  | some .muteAll => .btMuteAll
  | _ => .btOther f.cmd

/-- The opcode routing of `H_UC` (R74, R58); the samples are those of R41. -/
def selectUc (cc : CommandCodes) (f : RxFrame) (e : ErrCounts) : Instr :=
  match nameAmong cc ucNames f.cmd with
  | some .identify => .ucIdentify
  | some .identifyLed => .ucIdentifyLed
  | some .alive => .ucAlive
  | some .extensionOffline => .ucExtensionOffline
  | some .parkExtension => .ucParkExtension
  | some .ledFlashPosition => .ucLedFlashPosition f.p.v32
  | some .aliveReply => .ucAliveReply
  | some .linkDiagnosisRequest => .ucLinkDiagnosisRequest e.rxErr e.txErr e.totErr
  | some .muteAll => .ucMuteAll
  | _ => .ucOther f.cmd

/-- The row an inbound frame selects on a running block (R70 to R77): discard first, then the category, then the opcode. -/
def selectRx (cfg : Cfg) (f : RxFrame) (e : ErrCounts) : Instr :=
  if f.isNat then .rxDiscardNat
  else if discards f then .rxDiscardFrom f.ident
  else
    match classify cfg f.ident with
    | some .ba => selectBa cfg.cc f
    | some .bt => selectBt cfg.cc f
    | some .uc => selectUc cfg.cc f e
    | some .fd => .fdAny f.cmd
    | some .fw => .fwAny f
    | none => .rxUnmatched f.ident

/-- The row a fragmentation request selects on a running block (R120): the gate, then the size, then the tier. -/
def selectFrag (cfg : Cfg) (online : Bool) (tag : Byte) (byteCount : Word) (buf : List Byte) : Instr :=
  if !fragGate cfg online tag then .fragRefuseState tag byteCount buf
  else if Config.largeMax < byteCount.toNat then .fragRefuseSize tag byteCount buf
  else if byteCount.toNat ≤ Config.smallMax then .fragSmall tag byteCount buf
  else .fragLarge tag byteCount buf

/-- The row a stimulus selects (R65): `HALTED.any` first (R23; `BOOT` is accepted while halted), then by port. -/
def select (ctx : Context) : Stimulus → Instr
  | .boot cfg => .boot cfg
  | .tick => if ctx.halted then .haltedAny else .tick
  | .rx f e => if ctx.halted then .haltedAny else selectRx ctx.cfg f e
  | .frag tag byteCount buf =>
      if ctx.halted then .haltedAny else selectFrag ctx.cfg ctx.online tag byteCount buf

/-! ### Reading an outbound frame by the table's TX rows -/

/-- The row of an outbound payload whose command is `n` (R51 to R57). -/
def outboundRow (cfg : Cfg) (n : CommandName) (p : Payload) : Option Instr :=
  match n with
  | .startRequest => if p = heartbeatPayload cfg then some .txStartRequest else none
  | .alive => if p = heartbeatPayload cfg then some .txAlive else none
  | .aliveReply => if p = heartbeatPayload cfg then some .txAliveReply else none
  | .linkDiagnosisReply => some (.txLinkDiagnosisReply p.v8 p.v16 p.v32)
  | .bcAck => if p = Payload.ofScalars 0#8 0#16 0#32 then some .txBcAck else none
  | .bcNak => if p = Payload.ofScalars 0#8 0#16 0#32 then some .txBcNak else none
  | .fragmentedPackage =>
      if p.p0 = 0#8 then
        if p.p2 = 0#8 ∧ (p.p4 ++ p.p3 : Half).toNat ≤ Config.smallMax then
          some (.txFragmentSmallHeader p.p1 (p.p4 ++ p.p3) (p.p6 ++ p.p5))
        else none
      else some (.txFragmentSmallData p.p0 p.p1 p.p2 p.p3 p.p4 p.p5 p.p6)
  | .fragmentedLargeHeader =>
      if p.p0 = 0#8 ∧ p.p2 = 0#8 ∧ Config.smallMax < (p.p4 ++ p.p3 : Half).toNat then
        some (.txFragmentLargeHeader p.p1 (p.p4 ++ p.p3) (p.p6 ++ p.p5))
      else none
  | .fragmentedLargeData => some (.txFragmentLargeData p)
  | _ => none

/-- The TX row of an outbound frame of this block (R50, R65). -/
def decodeOutbound (cfg : Cfg) (f : OutFrame) : Option Instr :=
  if f.ident = fdIdent cfg ∧ f.dir = .fromDevice ∧ f.cmddir = cfg.txCmddir then
    match nameAmong cfg.cc txNames f.cmd with
    | some n => outboundRow cfg n f.p
    | none => none
  else none

/-- The row of a record in a context. -/
def rowOf (ctx : Context) : Record → Except DecodeError Instr
  | .stimulus st => .ok (select ctx st)
  | .outbound f =>
    match decodeOutbound ctx.cfg f with
    | some i => .ok i
    | none => .error .notOwnFrame

/-! ### Bytes to a record -/

/-- A reader of bytes: what it read and the bytes that follow. -/
abbrev Reader (α : Type) := List Byte → Except DecodeError (α × List Byte)

/-- Read one byte. -/
def readByte : Reader Byte
  | [] => .error .truncated
  | b :: rest => .ok (b, rest)

/-- Read a 32-bit value, least significant byte first. -/
def readWord : Reader Word
  | b0 :: b1 :: b2 :: b3 :: rest => .ok (b3 ++ b2 ++ b1 ++ b0, rest)
  | _ => .error .truncated

/-- Read an identifier: a 32-bit value whose top three bits are zero. -/
def readIdent : Reader Ident := fun bs => do
  let (w, bs) ← readWord bs
  if w.toNat < 2 ^ 29 then .ok (w.setWidth 29, bs) else .error .reservedBits

/-- Read a flags byte of which only the low `n` bits may be set. -/
def readFlags (n : Nat) : Reader Byte := fun bs => do
  let (b, bs) ← readByte bs
  if b.toNat < 2 ^ n then .ok (b, bs) else .error .reservedBits

/-- Read a payload. -/
def readPayload : Reader Payload
  | b0 :: b1 :: b2 :: b3 :: b4 :: b5 :: b6 :: rest =>
      .ok ({ p0 := b0, p1 := b1, p2 := b2, p3 := b3, p4 := b4, p5 := b5, p6 := b6 }, rest)
  | _ => .error .truncated

/-- The direction of a port value (R45): 1 is `TO_DEVICE`. -/
def Dir.ofBit (b : Bool) : Dir := if b then .toDevice else .fromDevice

/-- The port value of a direction (R45). -/
def Dir.toBit : Dir → Bool
  | .toDevice => true
  | .fromDevice => false

/-- Read the operands of `RX`. -/
def readRx : Reader Stimulus := fun bs => do
  let (ident, bs) ← readIdent bs
  let (fl, bs) ← readFlags 3 bs
  let (cmd, bs) ← readByte bs
  let (p, bs) ← readPayload bs
  let (r, bs) ← readWord bs
  let (t, bs) ← readWord bs
  let (e, bs) ← readWord bs
  .ok (.rx { ident := ident, dir := Dir.ofBit (fl.getLsbD 0), isNat := fl.getLsbD 1, cmd := cmd,
             cmddir := BitVec.ofBool (fl.getLsbD 2), p := p }
         { rxErr := r, txErr := t, totErr := e }, bs)

/-- Read the operands of `FRAG`. -/
def readFrag : Reader Stimulus := fun bs => do
  let (tag, bs) ← readByte bs
  let (byteCount, bs) ← readWord bs
  let (n, bs) ← readWord bs
  if n.toNat ≤ bs.length then .ok (.frag tag byteCount (bs.take n.toNat), bs.drop n.toNat) else .error .truncated

/-- Read the 22 command codes, in the order of R48. -/
def readCodes : Reader CommandCodes := fun bs => do
  let (identifyLed, bs) ← readByte bs
  let (identifyUnknownExtensions, bs) ← readByte bs
  let (extensionOffline, bs) ← readByte bs
  let (parkExtension, bs) ← readByte bs
  let (syncTicks, bs) ← readByte bs
  let (softwareUpdateInit, bs) ← readByte bs
  let (rebootAll, bs) ← readByte bs
  let (softwareUpdateVerify, bs) ← readByte bs
  let (softwareUpdatePageCrc, bs) ← readByte bs
  let (muteAll, bs) ← readByte bs
  let (identify, bs) ← readByte bs
  let (alive, bs) ← readByte bs
  let (ledFlashPosition, bs) ← readByte bs
  let (aliveReply, bs) ← readByte bs
  let (linkDiagnosisRequest, bs) ← readByte bs
  let (linkDiagnosisReply, bs) ← readByte bs
  let (startRequest, bs) ← readByte bs
  let (bcAck, bs) ← readByte bs
  let (bcNak, bs) ← readByte bs
  let (fragmentedPackage, bs) ← readByte bs
  let (fragmentedLargeHeader, bs) ← readByte bs
  let (fragmentedLargeData, bs) ← readByte bs
  .ok ({ identifyLed := identifyLed, identifyUnknownExtensions := identifyUnknownExtensions, extensionOffline := extensionOffline,
         parkExtension := parkExtension, syncTicks := syncTicks, softwareUpdateInit := softwareUpdateInit,
         rebootAll := rebootAll, softwareUpdateVerify := softwareUpdateVerify, softwareUpdatePageCrc := softwareUpdatePageCrc,
         muteAll := muteAll, identify := identify, alive := alive,
         ledFlashPosition := ledFlashPosition, aliveReply := aliveReply, linkDiagnosisRequest := linkDiagnosisRequest,
         linkDiagnosisReply := linkDiagnosisReply, startRequest := startRequest, bcAck := bcAck,
         bcNak := bcNak, fragmentedPackage := fragmentedPackage, fragmentedLargeHeader := fragmentedLargeHeader,
         fragmentedLargeData := fragmentedLargeData }, bs)

/-- Read the five pulse colours, in the order of R66. -/
def readColors : Reader PulseColors := fun bs => do
  let (o, bs) ← readWord bs
  let (i, bs) ← readWord bs
  let (a, bs) ← readWord bs
  let (r, bs) ← readWord bs
  let (m, bs) ← readWord bs
  .ok ({ orphaned := o.toNat, identify := i.toNat, alive := a.toNat, aliveReply := r.toNat, mute := m.toNat }, bs)

/-- Read the operand of `BOOT`; its flags byte holds `TX_CMDDIR` in bit 0 and `OFFLINE_ON_PARK` in bit 1. -/
def readBoot : Reader Stimulus := fun bs => do
  let (serial, bs) ← readWord bs
  let (deviceType, bs) ← readByte bs
  let (hwVersion, bs) ← readByte bs
  let (fwVersion, bs) ← readWord bs
  let (crcCap, bs) ← readWord bs
  let (tag, bs) ← readByte bs
  let (pad, bs) ← readByte bs
  let (fl, bs) ← readFlags 2 bs
  let (cc, bs) ← readCodes bs
  let (colors, bs) ← readColors bs
  .ok (.boot { serial := serial, deviceType := deviceType, hwVersion := hwVersion, fwVersion := fwVersion,
               crcCap := crcCap.toNat, cc := cc, tagExtPageCrc := tag, txCmddir := BitVec.ofBool (fl.getLsbD 0),
               pad := pad, offlineOnPark := fl.getLsbD 1, pulseColor := colors }, bs)

/-- Read an outbound frame. -/
def readOutbound : Reader OutFrame := fun bs => do
  let (ident, bs) ← readIdent bs
  let (fl, bs) ← readFlags 2 bs
  let (cmd, bs) ← readByte bs
  let (p, bs) ← readPayload bs
  .ok ({ ident := ident, dir := Dir.ofBit (fl.getLsbD 0), cmd := cmd, cmddir := BitVec.ofBool (fl.getLsbD 1), p := p }, bs)

/-- Read the operands that the record of port `k` carries. -/
def readOperands (k : Byte) : Reader Record := fun bs =>
  if k = 0x00#8 then .ok (.stimulus .tick, bs)
  else if k = 0x01#8 then do
    let (st, bs) ← readRx bs
    .ok (.stimulus st, bs)
  else if k = 0x02#8 then do
    let (st, bs) ← readFrag bs
    .ok (.stimulus st, bs)
  else if k = 0x03#8 then do
    let (st, bs) ← readBoot bs
    .ok (.stimulus st, bs)
  else if k = 0x04#8 then do
    let (f, bs) ← readOutbound bs
    .ok (.outbound f, bs)
  else .error (.unknownPort k)

/-- Read one record. -/
def readRecord : Reader Record
  | [] => .error .truncated
  | k :: rest => readOperands k rest

/-- Decode the first record of the bytes in a context: the instruction and the bytes that follow, or why there is none. -/
def decode (ctx : Context) (bs : List Byte) : Except DecodeError (Instr × List Byte) := do
  let (r, rest) ← readRecord bs
  let i ← rowOf ctx r
  .ok (i, rest)

/-! ### An instruction to bytes -/

/-- The bytes of a 32-bit value, least significant first. -/
def wordBytes (w : Word) : List Byte := [wordByte w 0, wordByte w 1, wordByte w 2, wordByte w 3]

/-- The bytes of a payload. -/
def payloadBytes (p : Payload) : List Byte := [p.p0, p.p1, p.p2, p.p3, p.p4, p.p5, p.p6]

/-- A flags byte from its low three bits. -/
def flagsByte (b2 b1 b0 : Bool) : Byte := BitVec.ofNat 8 (b0.toNat + 2 * b1.toNat + 4 * b2.toNat)

/-- The bytes of an `RX` record after its port. -/
def rxBytes (f : RxFrame) (e : ErrCounts) : List Byte :=
  wordBytes (f.ident.setWidth 32) ++ [flagsByte (f.cmddir.getLsbD 0) f.isNat f.dir.toBit, f.cmd] ++ payloadBytes f.p ++
    wordBytes e.rxErr ++ wordBytes e.txErr ++ wordBytes e.totErr

/-- The bytes of a `FRAG` record after its port. -/
def fragBytes (tag : Byte) (byteCount : Word) (buf : List Byte) : List Byte :=
  [tag] ++ wordBytes byteCount ++ wordBytes (BitVec.ofNat 32 buf.length) ++ buf

/-- The bytes of a `BOOT` record after its port. -/
def bootBytes (cfg : Cfg) : List Byte :=
  wordBytes cfg.serial ++ [cfg.deviceType, cfg.hwVersion] ++ wordBytes cfg.fwVersion ++
    wordBytes (BitVec.ofNat 32 cfg.crcCap) ++
    [cfg.tagExtPageCrc, cfg.pad, flagsByte false cfg.offlineOnPark (cfg.txCmddir.getLsbD 0)] ++
    CommandName.all.map cfg.cc.code ++
    wordBytes (BitVec.ofNat 32 cfg.pulseColor.orphaned) ++ wordBytes (BitVec.ofNat 32 cfg.pulseColor.identify) ++
    wordBytes (BitVec.ofNat 32 cfg.pulseColor.alive) ++ wordBytes (BitVec.ofNat 32 cfg.pulseColor.aliveReply) ++
    wordBytes (BitVec.ofNat 32 cfg.pulseColor.mute)

/-- The bytes of an outbound record after its port. -/
def outboundBytes (f : OutFrame) : List Byte :=
  wordBytes (f.ident.setWidth 32) ++ [flagsByte false (f.cmddir.getLsbD 0) f.dir.toBit, f.cmd] ++ payloadBytes f.p

/-- The bytes of a record. -/
def recordBytes : Record → List Byte
  | .stimulus .tick => [0x00#8]
  | .stimulus (.rx f e) => 0x01#8 :: rxBytes f e
  | .stimulus (.frag tag byteCount buf) => 0x02#8 :: fragBytes tag byteCount buf
  | .stimulus (.boot cfg) => 0x03#8 :: bootBytes cfg
  | .outbound f => 0x04#8 :: outboundBytes f

/-- An `RX` record whose payload carries the three scalars and whose other fields are zero. -/
def rxRecord (ident : Ident) (cmd : Byte) (a8 : Byte) (a16 : Half) (a32 : Word) : Record :=
  .stimulus (.rx { ident := ident, dir := .toDevice, isNat := false, cmd := cmd, cmddir := 0#1,
                   p := Payload.ofScalars a8 a16 a32 }
               { rxErr := 0#32, txErr := 0#32, totErr := 0#32 })

/-- The record of an instruction under a configuration: the stimulus that selects it (R64), every field that its selection and
its operands leave open at zero, or the outbound frame of its format. -/
def recordOf (cfg : Cfg) : Instr → Record
  | .haltedAny => .stimulus .tick
  | .rxDiscardNat =>
      .stimulus (.rx { ident := 0#29, dir := .toDevice, isNat := true, cmd := 0#8, cmddir := 0#1,
                       p := Payload.ofScalars 0#8 0#16 0#32 }
                   { rxErr := 0#32, txErr := 0#32, totErr := 0#32 })
  | .rxDiscardFrom ident =>
      .stimulus (.rx { ident := ident, dir := .fromDevice, isNat := false, cmd := 0#8, cmddir := 0#1,
                       p := Payload.ofScalars 0#8 0#16 0#32 }
                   { rxErr := 0#32, txErr := 0#32, totErr := 0#32 })
  | .baIdentifyLed => rxRecord baIdent (cfg.cc.code .identifyLed) 0#8 0#16 0#32
  | .baIdentifyUnknownExtensions => rxRecord baIdent (cfg.cc.code .identifyUnknownExtensions) 0#8 0#16 0#32
  | .baExtensionOffline => rxRecord baIdent (cfg.cc.code .extensionOffline) 0#8 0#16 0#32
  | .baParkExtension => rxRecord baIdent (cfg.cc.code .parkExtension) 0#8 0#16 0#32
  | .baSyncTicks value => rxRecord baIdent (cfg.cc.code .syncTicks) 0#8 0#16 value
  | .baOther cmd => rxRecord baIdent cmd 0#8 0#16 0#32
  | .btSoftwareUpdateInit hw marker version =>
      rxRecord (btIdent cfg) (cfg.cc.code .softwareUpdateInit) hw marker version
  | .btRebootAll marker version => rxRecord (btIdent cfg) (cfg.cc.code .rebootAll) 0#8 marker version
  | .btSoftwareUpdateVerify marker candidate =>
      rxRecord (btIdent cfg) (cfg.cc.code .softwareUpdateVerify) 0#8 marker candidate
  | .btSoftwareUpdatePageCrc page crc => rxRecord (btIdent cfg) (cfg.cc.code .softwareUpdatePageCrc) 0#8 page crc
  | .btMuteAll => rxRecord (btIdent cfg) (cfg.cc.code .muteAll) 0#8 0#16 0#32
  | .btOther cmd => rxRecord (btIdent cfg) cmd 0#8 0#16 0#32
  | .ucIdentify => rxRecord (ucIdent cfg) (cfg.cc.code .identify) 0#8 0#16 0#32
  | .ucIdentifyLed => rxRecord (ucIdent cfg) (cfg.cc.code .identifyLed) 0#8 0#16 0#32
  | .ucAlive => rxRecord (ucIdent cfg) (cfg.cc.code .alive) 0#8 0#16 0#32
  | .ucExtensionOffline => rxRecord (ucIdent cfg) (cfg.cc.code .extensionOffline) 0#8 0#16 0#32
  | .ucParkExtension => rxRecord (ucIdent cfg) (cfg.cc.code .parkExtension) 0#8 0#16 0#32
  | .ucLedFlashPosition offset => rxRecord (ucIdent cfg) (cfg.cc.code .ledFlashPosition) 0#8 0#16 offset
  | .ucAliveReply => rxRecord (ucIdent cfg) (cfg.cc.code .aliveReply) 0#8 0#16 0#32
  | .ucLinkDiagnosisRequest rxErr txErr totErr =>
      .stimulus (.rx { ident := ucIdent cfg, dir := .toDevice, isNat := false,
                       cmd := cfg.cc.code .linkDiagnosisRequest, cmddir := 0#1,
                       p := Payload.ofScalars 0#8 0#16 0#32 }
                   { rxErr := rxErr, txErr := txErr, totErr := totErr })
  | .ucMuteAll => rxRecord (ucIdent cfg) (cfg.cc.code .muteAll) 0#8 0#16 0#32
  | .ucOther cmd => rxRecord (ucIdent cfg) cmd 0#8 0#16 0#32
  | .fdAny cmd => rxRecord (fdIdent cfg) cmd 0#8 0#16 0#32
  | .fwAny f => .stimulus (.rx f { rxErr := 0#32, txErr := 0#32, totErr := 0#32 })
  | .rxUnmatched ident => rxRecord ident 0#8 0#8 0#16 0#32
  | .tick => .stimulus .tick
  | .fragRefuseState tag byteCount buf => .stimulus (.frag tag byteCount buf)
  | .fragRefuseSize tag byteCount buf => .stimulus (.frag tag byteCount buf)
  | .fragSmall tag byteCount buf => .stimulus (.frag tag byteCount buf)
  | .fragLarge tag byteCount buf => .stimulus (.frag tag byteCount buf)
  | .boot cfg' => .stimulus (.boot cfg')
  | .txStartRequest => .outbound (heartbeatFrame cfg .startRequest)
  | .txAlive => .outbound (heartbeatFrame cfg .alive)
  | .txAliveReply => .outbound (heartbeatFrame cfg .aliveReply)
  | .txLinkDiagnosisReply rxErr txErr totErr => .outbound (diagnosisFrame cfg rxErr txErr totErr)
  | .txBcAck => .outbound (ackFrame cfg)
  | .txBcNak => .outbound (nakFrame cfg)
  | .txFragmentSmallHeader tag len sum => .outbound (smallHeaderFrame cfg tag len sum)
  | .txFragmentSmallData index d0 d1 d2 d3 d4 d5 => .outbound (smallDataFrame cfg index d0 d1 d2 d3 d4 d5)
  | .txFragmentLargeHeader tag len sum => .outbound (largeHeaderFrame cfg tag len sum)
  | .txFragmentLargeData p => .outbound (largeDataFrame cfg p)

/-- The bytes of an instruction under a configuration. -/
def encode (cfg : Cfg) (i : Instr) : List Byte := recordBytes (recordOf cfg i)

/-! ### The host's words -/

/-- The first `n` bytes of a number, least significant first. -/
def bytesOfNat : Nat → Nat → List Byte
  | 0, _ => []
  | n + 1, w => BitVec.ofNat 8 w :: bytesOfNat n (w / 256)

/-- The bytes of an instruction of `nbits` bits, followed by zeros up to the longest record but for a buffer (a `BOOT` record). -/
def wordRecordBytes (nbits w : Nat) : List Byte := bytesOfNat ((nbits + 7) / 8) w ++ List.replicate 80 0#8

/-- The context right after reset (spec/70_reset_and_hazards.md R180), in which the host's words are decoded. -/
def resetContext : Context where
  cfg := Cfg.tc0
  halted := false
  online := false

/-- The instruction the decoder reads, in the context right after reset, from an instruction whose bits are `w`. -/
def decodeTableWord (nbits w : Nat) : Option Instr :=
  match decode resetContext (wordRecordBytes nbits w) with
  | .ok (i, _) => some i
  | .error _ => none

/-- The stimulus that the bits `w` are the record of, if they are one. -/
def stimulusOfWord (nbits w : Nat) : Option Stimulus :=
  match readRecord (wordRecordBytes nbits w) with
  | .ok (.stimulus st, _) => some st
  | _ => none

end Sys2Proof
end

