-- ==== Sys2Proof/Machine/State.lean ====
section
/-! DEFINITION. The machine's state: the configuration, the Device record of spec/10_state.md R10, and the model's own fields
(the schedule, the trace of output actions, the count of free values). Plain data throughout. -/

namespace Sys2Proof.Machine

/-- `DEV.state` (R15, R85). -/
inductive Lifecycle where
  | offline
  | online
deriving DecidableEq, Repr

/-- A 32-bit register that R29 leaves without a value at `BOOT`: its bits, and whether anything has written it since `BOOT`. While
`written` is false the register is unwritten in R29's sense, and no operation of the model uses `bits` (log 4). -/
structure Reg32 where
  bits : Word
  written : Bool
deriving DecidableEq, Repr

/-- An unwritten register. Its bits are a value the model names, 0: DESIGN CHOICE (log 4), unsafe for a statement that rests on
those bits. -/
def Reg32.unwritten : Reg32 where
  bits := 0#32
  written := false

/-- A register holding a written value. -/
def Reg32.holding (v : Word) : Reg32 where
  bits := v
  written := true

/-- The CRC page array (R22, R30 (3)), the only indexed space the block stores to: the entries something has written since
`BOOT`, by strictly rising index. An index that is not listed holds no value (R29). -/
abbrev Memory := List (Nat × BitVec Config.crcWidth)

/-- The canonical form: indices strictly rising. -/
abbrev Memory.wf (m : Memory) : Prop := (m.map Prod.fst).Pairwise (· < ·)

/-- The Device record (R10). -/
structure Device where
  /-- `DEV.state` (R15). -/
  state : Lifecycle
  /-- `DEV.muted` (R16). -/
  muted : Bool
  /-- `DEV.identified` (R17). -/
  identified : Bool
  /-- `DEV.forceStartPending` (R18). -/
  forceStartPending : Bool
  /-- `DEV.firmwareUpdateActive` (R19). -/
  firmwareUpdateActive : Bool
  /-- `DEV.countdown` (R20): an `i32` of milliseconds. -/
  countdown : Reg32
  /-- `DEV.firmwareNewVersion` (R21). -/
  firmwareNewVersion : Reg32
  /-- `CRC[0 .. CRC_CAP-1]` (R22). -/
  crc : Memory
  /-- `DEV.halted` (R23). -/
  halted : Bool
deriving DecidableEq, Repr

/-- The output actions (R4, R6). -/
inductive Action where
  /-- `TX(f)`: hand the frame to `send` (R167). -/
  | tx (f : OutFrame)
  /-- `IND.identifyOn` (R168). -/
  | identifyOn
  /-- `IND.identifyOff` (R168). -/
  | identifyOff
  /-- `IND.pulse(K)` (R66), with the colour argument `PULSE_COLOR(K)` (R168). -/
  | pulse (k : PulseKind) (color : Nat)
  /-- `IND.syncTicks(v)` (R168). -/
  | syncTicks (v : Word)
  /-- `IND.setSyncOffset(v)` (R168). -/
  | setSyncOffset (v : Word)
  /-- `FWHOOK.verify(candidate, eligible)` (R143). -/
  | fwVerify (candidate : Word) (eligible : Bool)
  /-- `ROUTE.fw(f)` (R76). -/
  | routeFw (f : RxFrame)
  /-- `RESET` (R159, R169). -/
  | reset
deriving DecidableEq, Repr

/-- The machine's state. -/
structure State where
  /-- `CFG` (R2): `FW_VERSION` may be new at a `BOOT` (R14), every other field is a constant of the module. -/
  cfg : Cfg
  /-- The Device record (R10). -/
  dev : Device
  /-- The model's own: the stimuli not yet accepted, in the order of acceptance (R36, R161; log 1). -/
  inbox : List Stimulus
  /-- The model's own: the output actions so far, oldest first (R39; log 8). -/
  out : List Action
  /-- The model's own: how many free values have been drawn (log 5). -/
  draws : Nat
deriving DecidableEq, Repr

/-- Why a collaborator's read has no answer. No step of the block answers with a fault (R155). -/
inductive Fault where
  /-- A collaborator reads a register or a CRC entry that nothing has written since `BOOT` (R29, U15). Raised by the collaborator
  reads of Machine/Ops.lean only, which no step calls. Safe: R29 (spec/10_state.md) says that such a read "faults in the model". -/
  | unwrittenRead
  /-- A collaborator reads a CRC entry at or above `CRC_CAP`, which does not exist (R22, R30). Raised by `readCrcEntry` only.
  Safe. -/
  | noSuchEntry
deriving DecidableEq, Repr

/-- Why the model gives a step no meaning. -/
inductive Refusal where
  /-- An instruction whose arm has no meaning yet. Raised by no arm of this model. Safe. -/
  | notModelled (mnemonic : String)
  /-- A fragmentation request whose buffer holds fewer than `byteCount` bytes, when the engine would read them (R33, D27, U18:
  "the model refuses it"). Raised by `FRAG.small` and `FRAG.large`. Safe. -/
  | shortBuffer
deriving DecidableEq, Repr

/-- The Device record right after `BOOT` (R29, R180). -/
def Device.atBoot : Device where
  state := .offline
  muted := false
  identified := false
  forceStartPending := true
  firmwareUpdateActive := false
  countdown := Reg32.unwritten
  firmwareNewVersion := Reg32.unwritten
  crc := []
  halted := false

/-- The machine right after reset: the record of R180 under the test configuration (log 2), no stimulus yet accepted, no output
action yet made. -/
def State.reset : State where
  cfg := Cfg.tc0
  dev := Device.atBoot
  inbox := []
  out := []
  draws := 0

/-- The read-only `STATUS` port (R28). -/
structure Status where
  state : Lifecycle
  muted : Bool
  identified : Bool
  forceStartPending : Bool
  firmwareUpdateActive : Bool
  halted : Bool
deriving DecidableEq, Repr

end Sys2Proof.Machine
end

