-- ==== Sys2Proof/Machine/Ops.lean ====
section
/-! DEFINITION. The named operations over the Device record, the CRC array and the output trace, and with them the one event that
plays the part of a trap, `RESET` (spec/60_exceptions.md R159, R164), and `BOOT`, the only way out of it
(spec/70_reset_and_hazards.md R180, R183). -/

namespace Sys2Proof.Machine

/-! ### The CRC array -/

/-- What an entry holds; none where nothing has written it since `BOOT` (R29). -/
def Memory.read (m : Memory) (i : Nat) : Option (BitVec Config.crcWidth) := m.lookup i

/-- `CRC[i] <- v`, without the bound check: the entry is replaced whole, every other entry is kept (R34), and the indices stay
strictly rising. -/
def Memory.write : Memory → Nat → BitVec Config.crcWidth → Memory
  | [], i, v => [(i, v)]
  | (j, w) :: rest, i, v =>
    if i < j then (i, v) :: (j, w) :: rest
    else if i = j then (i, v) :: rest
    else (j, w) :: Memory.write rest i v

/-! ### Registers and flags -/

/-- `DEV.state <- l`. -/
def State.setLifecycle (s : State) (l : Lifecycle) : State := { s with dev := { s.dev with state := l } }

/-- `DEV.muted <- b`; with `false` it is `unmute()` (R101). -/
def State.setMuted (s : State) (b : Bool) : State := { s with dev := { s.dev with muted := b } }

/-- `DEV.identified <- b`. -/
def State.setIdentified (s : State) (b : Bool) : State := { s with dev := { s.dev with identified := b } }

/-- `DEV.forceStartPending <- b`; with `true` it is `schedule_start()` (R101). -/
def State.setForceStart (s : State) (b : Bool) : State := { s with dev := { s.dev with forceStartPending := b } }

/-- `DEV.firmwareUpdateActive <- b`. -/
def State.setUpdateActive (s : State) (b : Bool) : State := { s with dev := { s.dev with firmwareUpdateActive := b } }

/-- `DEV.countdown <- v`. -/
def State.setCountdown (s : State) (v : Word) : State := { s with dev := { s.dev with countdown := Reg32.holding v } }

/-- `DEV.firmwareNewVersion <- v` (R21). -/
def State.setNewVersion (s : State) (v : Word) : State :=
  { s with dev := { s.dev with firmwareNewVersion := Reg32.holding v } }

/-- The bounded store `CRC[i] <- v` (R34): done when `i < CRC_CAP`, otherwise nothing is written anywhere. -/
def State.storeCrc (s : State) (i : Nat) (v : BitVec Config.crcWidth) : State :=
  if i < s.cfg.crcCap then { s with dev := { s.dev with crc := s.dev.crc.write i v } } else s

/-! ### Output actions -/

/-- `emit A`: append one output action (R4, R5). -/
def State.emit (s : State) (a : Action) : State := { s with out := s.out ++ [a] }

/-- Append output actions in order (R39). -/
def State.emitAll (s : State) (as : List Action) : State := { s with out := s.out ++ as }

/-- `emit TX(f)`: one call of `send` (R128, R167). -/
def State.send (s : State) (f : OutFrame) : State := s.emit (.tx f)

/-- `emit TX(f)` for each frame, in order (R39, R128). -/
def State.sendAll (s : State) (fs : List OutFrame) : State := s.emitAll (fs.map .tx)

/-- `emit IND.pulse(K)`, with the colour `PULSE_COLOR(K)` (R66, R168). -/
def State.pulse (s : State) (k : PulseKind) : State := s.emit (.pulse k (s.cfg.pulseColor.color k))

/-! ### Step entry -/

/-- A step of a running block (R23, R70, R112, R120): while `DEV.halted` is true a stimulus has no effect. -/
def whileRunning (s : State) (next : State) : Host.Outcome State Fault Refusal :=
  if s.dev.halted then .next s else .next next

/-! ### Shared procedures -/

/-- The orphan procedure (R100). -/
def State.orphan (s : State) : State :=
  let s := ((s.setMuted false).setIdentified false).pulse .orphaned
  if s.cfg.offlineOnPark then s.setLifecycle .offline else s

/-- The re-arm interval `N` in milliseconds (R111). -/
def rearmInterval (cfg : Cfg) : Nat := 1000 * ((cfg.serial &&& Config.jitterMask).toNat + Config.baseSeconds)

/-- `N` fits an `i32` (R111). -/
theorem rearmInterval_lt (cfg : Cfg) : rearmInterval cfg < 2 ^ 32 := by
  have h : (cfg.serial &&& Config.jitterMask).toNat ≤ 63 := by
    rw [BitVec.toNat_and]; exact Nat.and_le_right
  have e : Config.baseSeconds = 360 := rfl
  unfold rearmInterval
  omega

/-- `N` as the countdown stores it (R111). -/
def rearmValue (cfg : Cfg) : Word := BitVec.ofNatLT (rearmInterval cfg) (rearmInterval_lt cfg)

/-- `DEV.countdown <- N` (R111, R112). -/
def State.rearm (s : State) : State := s.setCountdown (rearmValue s.cfg)

/-- Reading a countdown that nothing has written since `BOOT`, which no run does (R117), finds a free value: the register holds
it from then on (log 5). A written countdown is left as it is. -/
def State.settleCountdown (s : State) : State :=
  if s.dev.countdown.written then s
  else { s.setCountdown (Config.unwrittenCountdown s.draws) with draws := s.draws + 1 }

/-- `DEV.countdown <- DEV.countdown - 10` (R112, step 3). -/
def State.stepCountdown (s : State) : State :=
  s.setCountdown (s.dev.countdown.bits - BitVec.ofNat 32 Config.tickMs)

/-- Send a heartbeat (R51, R113). -/
def State.sendHeartbeat (s : State) (c : CommandName) : State := s.send (heartbeatFrame s.cfg c)

/-! ### Reset and boot -/

/-- TAKING the one event that plays the part of a trap (R142, R159, R164): `RESET` goes to the platform, nothing is saved, and
the block is halted until `BOOT`. -/
def State.requestReset (s : State) : State :=
  let s := s.emit .reset
  { s with dev := { s.dev with halted := true } }

/-- COMING BACK from it (R180, R183): `BOOT` re-creates the whole record; it sends no frame and calls no collaborator. Of the
configuration the platform supplies the one field that may be new at a boot is `FW_VERSION` (R2, R14); every other field is a
constant of the module and survives (R11, R12, R13, R29, R180; log 13). -/
def State.bootWith (s : State) (cfg : Cfg) : State :=
  { s with cfg := { s.cfg with fwVersion := cfg.fwVersion }, dev := Device.atBoot }

/-! ### What collaborators read -/

/-- The `STATUS` port (R28). -/
def State.status (s : State) : Status where
  state := s.dev.state
  muted := s.dev.muted
  identified := s.dev.identified
  forceStartPending := s.dev.forceStartPending
  firmwareUpdateActive := s.dev.firmwareUpdateActive
  halted := s.dev.halted

/-- A collaborator's read of a register that may be unwritten: before the first write it "faults in the model" (R29, U15). No step
calls it. -/
def Reg32.collaboratorRead (r : Reg32) : Except Fault Word := if r.written then .ok r.bits else .error .unwrittenRead

/-- A collaborator's read of `DEV.firmwareNewVersion` (R21, R29). -/
def State.readNewVersion (s : State) : Except Fault Word := s.dev.firmwareNewVersion.collaboratorRead

/-- A collaborator's read of `CRC[i]` (R22): before the first write it "faults in the model" (R29, U15). No step calls it. -/
def State.readCrcEntry (s : State) (i : Nat) : Except Fault (BitVec Config.crcWidth) :=
  if i < s.cfg.crcCap then
    match s.dev.crc.read i with
    | some v => .ok v
    | none => .error .unwrittenRead
  else .error .noSuchEntry

/-! ### Accepting a stimulus -/

/-- What the selection reads of the state (R65, R78, R120). -/
def State.context (s : State) : Context where
  cfg := s.cfg
  halted := s.dev.halted
  online := decide (s.dev.state = .online)

/-- Accept the next stimulus (R3, R36): the row it selects, and the state with the stimulus taken off the schedule. None while
no stimulus is pending: the block is idle (R24). -/
def State.accept (s : State) : Option (Instr × State) :=
  match s.inbox with
  | [] => none
  | st :: rest => some (select s.context st, { s with inbox := rest })

/-- Put a stimulus at the head of the schedule. -/
def State.pushStimulus (s : State) (st : Stimulus) : State := { s with inbox := st :: s.inbox }

/-- Put the stimulus that the bits `w` are the record of at the head of the schedule (log 7). -/
def State.pushWord (s : State) (nbits w : Nat) : State :=
  match stimulusOfWord nbits w with
  | some st => s.pushStimulus st
  | none => s

end Sys2Proof.Machine
end

