-- ==== Sys2Proof/Machine/Flags.lean ====
section
/-! DEFINITION. The tests the handlers compute (spec/44_firmware_handshake.md R141, R143, R147, R149; spec/42_liveness_timer.md
R112). The block has no condition codes beyond the four flags (R10). -/

namespace Sys2Proof.Machine

/-- `force(f)`: the 16-bit field is the force marker (R147). -/
def forced (marker : Half) : Bool := marker == Config.forceMarker

/-- `differs(f)`: the announced version is not `FW_VERSION` (R147); equality only, not an order (R149). -/
def differs (cfg : Cfg) (version : Word) : Bool := version != cfg.fwVersion

/-- `force(f) or differs(f)`: what an init is accepted on, a reboot resets on, and a verify is eligible on (R141 to R143). -/
def forcedOrDiffers (cfg : Cfg) (marker : Half) (version : Word) : Bool := forced marker || differs cfg version

/-- The announced hardware version is at most this device's, unsigned (R141, R149). -/
def hardwareAccepts (cfg : Cfg) (hw : Byte) : Bool := decide (hw.toNat ≤ cfg.hwVersion.toNat)

/-- `countdown <= 0`, signed (R112, step 2). -/
def countdownExpired (s : State) : Bool := decide (s.dev.countdown.bits.toInt ≤ 0)

end Sys2Proof.Machine
end

