-- ==== Sys2Proof/Machine/Operands.lean ====
section
/-! DEFINITION. The operand conversions of the handlers: the narrowing of the error counters (spec/30_encoding.md R52), the index
and width of a CRC store (spec/44_firmware_handshake.md R144), and the byte count of a fragmentation request (R120). -/

namespace Sys2Proof.Machine

/-- `rxErr[7:0]` (R52). -/
def narrowRxErr (r : Word) : Byte := r.setWidth 8

/-- `txErr[15:0]` (R52). -/
def narrowTxErr (t : Word) : Half := t.setWidth 16

/-- The page index of a CRC store: `zext_32(f.v16)`, compared unsigned (R144, R34). -/
def crcIndex (page : Half) : Nat := page.toNat

/-- `trunc_CRC_W(f.v32)` (R144). -/
def crcValue (crc : Word) : BitVec Config.crcWidth := crc.setWidth Config.crcWidth

/-- The byte count `L` of a request, as a number (R120). -/
def requestLength (byteCount : Word) : Nat := byteCount.toNat

/-- The buffer holds at least `byteCount` bytes, as R33 demands. -/
def bufferHolds (buf : List Byte) (byteCount : Word) : Bool := decide (requestLength byteCount ≤ buf.length)

end Sys2Proof.Machine
end

