-- ==== Sys2Proof/Machine/Boot.lean ====
section
/-! DEFINITION. `BOOT` (spec/70_reset_and_hazards.md R180, R183). -/

namespace Sys2Proof.Machine

/-- BOOT (R180): accepted in every state, halted or not; nothing survives it but the module's constants. -/
def execBoot (cfg : Cfg) (s : State) : Host.Outcome State Fault Refusal := .next (s.bootWith cfg)

end Sys2Proof.Machine
end

