-- ==== Sys2Proof/Machine/Dispatcher.lean ====
section
/-! DEFINITION. The rows without effect on the Device record: halted, discarded, unmatched, unknown opcode, from-device
(spec/10_state.md R23, spec/40_dispatcher.md R71, R74, R75, R77), and the firmware-broadcast hand-over (R76). -/

namespace Sys2Proof.Machine

/-- HALTED.any (R23): no register write, no output action. -/
def execHaltedAny (s : State) : Host.Outcome State Fault Refusal := .next s

/-- RX.discard.nat (R71): class (a), silent (R156). -/
def execRxDiscardNat (s : State) : Host.Outcome State Fault Refusal := .next s

/-- RX.discard.from (R71): class (a), silent (R156). -/
def execRxDiscardFrom (_ident : Ident) (s : State) : Host.Outcome State Fault Refusal := .next s

/-- BA.other (R74, R60): an unknown opcode is a defined no-op. -/
def execBaOther (_cmd : Byte) (s : State) : Host.Outcome State Fault Refusal := .next s

/-- BT.other (R74, R60). -/
def execBtOther (_cmd : Byte) (s : State) : Host.Outcome State Fault Refusal := .next s

/-- UC.other (R74, R60). -/
def execUcOther (_cmd : Byte) (s : State) : Host.Outcome State Fault Refusal := .next s

/-- FD.any (R75): always ignored. -/
def execFdAny (_cmd : Byte) (s : State) : Host.Outcome State Fault Refusal := .next s

/-- FW.any (R76): the frame is handed on unread; no Device field is read or written but `DEV.halted` (R23). -/
def execFwAny (f : RxFrame) (s : State) : Host.Outcome State Fault Refusal := whileRunning s (s.emit (.routeFw f))

/-- RX.unmatched (R77): class (a), silent (R156). -/
def execRxUnmatched (_ident : Ident) (s : State) : Host.Outcome State Fault Refusal := .next s

end Sys2Proof.Machine
end

