-- ==== Sys2Proof/Machine/Fragmentation.lean ====
section
/-! DEFINITION. The Fragmentation Engine (spec/43_fragmentation.md R120 to R130). -/

namespace Sys2Proof.Machine

/-- A transfer that the gate of R121 lets through hands over its frames in order (R128); one it does not let through is refused
as a no-op (R121, class (c)). A buffer that holds fewer than `byteCount` bytes has no defined behaviour (R33, D27). -/
def transfer (tag : Byte) (byteCount : Word) (buf : List Byte) (frames : List OutFrame) (s : State) :
    Host.Outcome State Fault Refusal :=
  if s.dev.halted || !fragGate s.cfg (decide (s.dev.state = .online)) tag then .next s
  else if bufferHolds buf byteCount then .next (s.sendAll frames)
  else .refused .shortBuffer

/-- FRAG.refuse.state (R121): class (c), silent (R158). -/
def execFragRefuseState (_tag : Byte) (_byteCount : Word) (_buf : List Byte) (s : State) :
    Host.Outcome State Fault Refusal := .next s

/-- FRAG.refuse.size (R122): class (b), silent (R157). -/
def execFragRefuseSize (_tag : Byte) (_byteCount : Word) (_buf : List Byte) (s : State) :
    Host.Outcome State Fault Refusal := .next s

/-- FRAG.small (R125). -/
def execFragSmall (tag : Byte) (byteCount : Word) (buf : List Byte) (s : State) : Host.Outcome State Fault Refusal :=
  transfer tag byteCount buf (smallFrames s.cfg tag (requestLength byteCount) buf) s

/-- FRAG.large (R126). -/
def execFragLarge (tag : Byte) (byteCount : Word) (buf : List Byte) (s : State) : Host.Outcome State Fault Refusal :=
  transfer tag byteCount buf (largeFrames s.cfg tag (requestLength byteCount) buf) s

end Sys2Proof.Machine
end

