-- ==== Sys2Proof/Machine/Handshake.lean ====
section
/-! DEFINITION. The Firmware Update Handshake: the handlers of broadcast-to-type (spec/44_firmware_handshake.md R141 to R145). -/

namespace Sys2Proof.Machine

/-- BT.software_update_init (R141): clear first, then the hardware test, then the version test. -/
def execBtSoftwareUpdateInit (hw : Byte) (marker : Half) (version : Word) (s : State) : Host.Outcome State Fault Refusal :=
  let cleared := s.setUpdateActive false
  whileRunning s
    (if hardwareAccepts s.cfg hw then
      if forcedOrDiffers s.cfg marker version then (cleared.setUpdateActive true).send (ackFrame s.cfg)
      else cleared.send (nakFrame s.cfg)
    else cleared)

/-- BT.reboot_all (R142). -/
def execBtRebootAll (marker : Half) (version : Word) (s : State) : Host.Outcome State Fault Refusal :=
  let cleared := (s.setMuted false).setUpdateActive false
  whileRunning s (if forcedOrDiffers s.cfg marker version then cleared.requestReset else cleared)

/-- BT.software_update_verify (R143): class (c), silent, while no update is active (R158). -/
def execBtSoftwareUpdateVerify (marker : Half) (candidate : Word) (s : State) : Host.Outcome State Fault Refusal :=
  whileRunning s
    (if s.dev.firmwareUpdateActive then
      (s.setNewVersion candidate).emit (.fwVerify candidate (forcedOrDiffers s.cfg marker candidate))
    else s)

/-- BT.software_update_page_crc (R144): class (c), silent, while no update is active; class (b), silent, for an index at or above
the capacity (R157). -/
def execBtSoftwareUpdatePageCrc (page : Half) (crc : Word) (s : State) : Host.Outcome State Fault Refusal :=
  whileRunning s (if s.dev.firmwareUpdateActive then s.storeCrc (crcIndex page) (crcValue crc) else s)

/-- BT.mute_all (R145): no pulse. -/
def execBtMuteAll (s : State) : Host.Outcome State Fault Refusal := whileRunning s (s.setMuted true)

end Sys2Proof.Machine
end

