-- ==== Sys2Proof/Machine/Lifecycle.lean ====
section
/-! DEFINITION. The Device Lifecycle State Machine: the handlers of broadcast-to-all and unicast
(spec/41_lifecycle.md R86 to R100). -/

namespace Sys2Proof.Machine

/-- BA.identify_LED (R86). -/
def execBaIdentifyLed (s : State) : Host.Outcome State Fault Refusal := whileRunning s (s.emit .identifyOff)

/-- BA.identify_unknown_extensions (R87). -/
def execBaIdentifyUnknownExtensions (s : State) : Host.Outcome State Fault Refusal :=
  let s' := s.setMuted false
  whileRunning s (if s'.dev.identified then s' else s'.setForceStart true)

/-- BA.extension_offline (R88). -/
def execBaExtensionOffline (s : State) : Host.Outcome State Fault Refusal := whileRunning s s.orphan

/-- BA.park_extension (R89). -/
def execBaParkExtension (s : State) : Host.Outcome State Fault Refusal := whileRunning s s.orphan

/-- BA.sync_ticks (R90). -/
def execBaSyncTicks (value : Word) (s : State) : Host.Outcome State Fault Refusal :=
  whileRunning s (s.emit (.syncTicks value))

/-- UC.identify (R91). -/
def execUcIdentify (s : State) : Host.Outcome State Fault Refusal :=
  whileRunning s
    (((((s.setIdentified true).setMuted false).setForceStart true).setUpdateActive false).pulse .identify)

/-- UC.identify_LED (R92). -/
def execUcIdentifyLed (s : State) : Host.Outcome State Fault Refusal := whileRunning s (s.emit .identifyOn)

/-- UC.alive (R93): the reply, then the pulse. -/
def execUcAlive (s : State) : Host.Outcome State Fault Refusal :=
  whileRunning s ((s.sendHeartbeat .aliveReply).pulse .alive)

/-- UC.extension_offline (R94). -/
def execUcExtensionOffline (s : State) : Host.Outcome State Fault Refusal := whileRunning s s.orphan

/-- UC.park_extension (R95). -/
def execUcParkExtension (s : State) : Host.Outcome State Fault Refusal := whileRunning s s.orphan

/-- UC.LED_flash_position (R96). -/
def execUcLedFlashPosition (offset : Word) (s : State) : Host.Outcome State Fault Refusal :=
  whileRunning s ((s.setLifecycle .online).emit (.setSyncOffset offset))

/-- UC.alive_reply (R97). -/
def execUcAliveReply (s : State) : Host.Outcome State Fault Refusal := whileRunning s (s.pulse .aliveReply)

/-- UC.LinkDiagnosis_request (R98): the three samples, narrowed as R52 says. -/
def execUcLinkDiagnosisRequest (rxErr txErr totErr : Word) (s : State) : Host.Outcome State Fault Refusal :=
  whileRunning s (s.send (diagnosisFrame s.cfg (narrowRxErr rxErr) (narrowTxErr txErr) totErr))

/-- UC.mute_all (R99). -/
def execUcMuteAll (s : State) : Host.Outcome State Fault Refusal := whileRunning s ((s.setMuted true).pulse .mute)

end Sys2Proof.Machine
end

