-- ==== Sys2Proof/Machine/Liveness.lean ====
section
/-! DEFINITION. The Liveness Timer (spec/42_liveness_timer.md R110 to R117). -/

namespace Sys2Proof.Machine

/-- Steps 1 and 2 of the tick (R112): a pending start, else an expired countdown. -/
def State.tickHeartbeat (s : State) : State :=
  if s.dev.forceStartPending then ((s.setForceStart false).rearm).sendHeartbeat .startRequest
  else
    let s := s.settleCountdown
    if countdownExpired s then s.rearm.sendHeartbeat .alive else s

/-- TICK (R112): steps 1 and 2, then step 3 always. -/
def execTick (s : State) : Host.Outcome State Fault Refusal := whileRunning s s.tickHeartbeat.stepCountdown

end Sys2Proof.Machine
end

