-- ==== Sys2Proof/Machine/Outbound.lean ====
section
/-! DEFINITION. The outbound formats (spec/30_encoding.md R50 to R57): the frame of each is built and handed to `send`
(spec/60_exceptions.md R167). R65 says that these rows are no instructions: a step sends such frames as part of the
instructions that send them, and no stimulus selects these rows by themselves (log 9). -/

namespace Sys2Proof.Machine

/-- TX.start_request (R51). -/
def execTxStartRequest (s : State) : Host.Outcome State Fault Refusal := whileRunning s (s.sendHeartbeat .startRequest)

/-- TX.alive (R51). -/
def execTxAlive (s : State) : Host.Outcome State Fault Refusal := whileRunning s (s.sendHeartbeat .alive)

/-- TX.alive_reply (R51). -/
def execTxAliveReply (s : State) : Host.Outcome State Fault Refusal := whileRunning s (s.sendHeartbeat .aliveReply)

/-- TX.LinkDiagnosis_reply (R52). -/
def execTxLinkDiagnosisReply (rxErr : Byte) (txErr : Half) (totErr : Word) (s : State) :
    Host.Outcome State Fault Refusal := whileRunning s (s.send (diagnosisFrame s.cfg rxErr txErr totErr))

/-- TX.BC_ACK (R53). -/
def execTxBcAck (s : State) : Host.Outcome State Fault Refusal := whileRunning s (s.send (ackFrame s.cfg))

/-- TX.BC_NAK (R53). -/
def execTxBcNak (s : State) : Host.Outcome State Fault Refusal := whileRunning s (s.send (nakFrame s.cfg))

/-- TX.fragment_small_header (R54). -/
def execTxFragmentSmallHeader (tag : Byte) (len sum : Half) (s : State) : Host.Outcome State Fault Refusal :=
  whileRunning s (s.send (smallHeaderFrame s.cfg tag len sum))

/-- TX.fragment_small_data (R55). -/
def execTxFragmentSmallData (index d0 d1 d2 d3 d4 d5 : Byte) (s : State) : Host.Outcome State Fault Refusal :=
  whileRunning s (s.send (smallDataFrame s.cfg index d0 d1 d2 d3 d4 d5))

/-- TX.fragment_large_header (R56). -/
def execTxFragmentLargeHeader (tag : Byte) (len sum : Half) (s : State) : Host.Outcome State Fault Refusal :=
  whileRunning s (s.send (largeHeaderFrame s.cfg tag len sum))

/-- TX.fragment_large_data (R57). -/
def execTxFragmentLargeData (p : Payload) (s : State) : Host.Outcome State Fault Refusal :=
  whileRunning s (s.send (largeDataFrame s.cfg p))

end Sys2Proof.Machine
end

