-- ==== Sys2Proof/Machine/Dispatch.lean ====
section
/-! DEFINITION. One arm for each row of spec/opcode_table.json, in the table's order. -/

namespace Sys2Proof.Machine

def exec (i : Instr) (s : State) : Host.Outcome State Fault Refusal :=
  match i with
  | .haltedAny => Sys2Proof.Machine.execHaltedAny s
  | .rxDiscardNat => Sys2Proof.Machine.execRxDiscardNat s
  | .rxDiscardFrom ident => Sys2Proof.Machine.execRxDiscardFrom ident s
  | .baIdentifyLed => Sys2Proof.Machine.execBaIdentifyLed s
  | .baIdentifyUnknownExtensions => Sys2Proof.Machine.execBaIdentifyUnknownExtensions s
  | .baExtensionOffline => Sys2Proof.Machine.execBaExtensionOffline s
  | .baParkExtension => Sys2Proof.Machine.execBaParkExtension s
  | .baSyncTicks value => Sys2Proof.Machine.execBaSyncTicks value s
  | .baOther cmd => Sys2Proof.Machine.execBaOther cmd s
  | .btSoftwareUpdateInit hw marker version => Sys2Proof.Machine.execBtSoftwareUpdateInit hw marker version s
  | .btRebootAll marker version => Sys2Proof.Machine.execBtRebootAll marker version s
  | .btSoftwareUpdateVerify marker candidate => Sys2Proof.Machine.execBtSoftwareUpdateVerify marker candidate s
  | .btSoftwareUpdatePageCrc page crc => Sys2Proof.Machine.execBtSoftwareUpdatePageCrc page crc s
  | .btMuteAll => Sys2Proof.Machine.execBtMuteAll s
  | .btOther cmd => Sys2Proof.Machine.execBtOther cmd s
  | .ucIdentify => Sys2Proof.Machine.execUcIdentify s
  | .ucIdentifyLed => Sys2Proof.Machine.execUcIdentifyLed s
  | .ucAlive => Sys2Proof.Machine.execUcAlive s
  | .ucExtensionOffline => Sys2Proof.Machine.execUcExtensionOffline s
  | .ucParkExtension => Sys2Proof.Machine.execUcParkExtension s
  | .ucLedFlashPosition offset => Sys2Proof.Machine.execUcLedFlashPosition offset s
  | .ucAliveReply => Sys2Proof.Machine.execUcAliveReply s
  | .ucLinkDiagnosisRequest rxErr txErr totErr => Sys2Proof.Machine.execUcLinkDiagnosisRequest rxErr txErr totErr s
  | .ucMuteAll => Sys2Proof.Machine.execUcMuteAll s
  | .ucOther cmd => Sys2Proof.Machine.execUcOther cmd s
  | .fdAny cmd => Sys2Proof.Machine.execFdAny cmd s
  | .fwAny f => Sys2Proof.Machine.execFwAny f s
  | .rxUnmatched ident => Sys2Proof.Machine.execRxUnmatched ident s
  | .tick => Sys2Proof.Machine.execTick s
  | .fragRefuseState tag byteCount buf => Sys2Proof.Machine.execFragRefuseState tag byteCount buf s
  | .fragRefuseSize tag byteCount buf => Sys2Proof.Machine.execFragRefuseSize tag byteCount buf s
  | .fragSmall tag byteCount buf => Sys2Proof.Machine.execFragSmall tag byteCount buf s
  | .fragLarge tag byteCount buf => Sys2Proof.Machine.execFragLarge tag byteCount buf s
  | .boot cfg => Sys2Proof.Machine.execBoot cfg s
  | .txStartRequest => Sys2Proof.Machine.execTxStartRequest s
  | .txAlive => Sys2Proof.Machine.execTxAlive s
  | .txAliveReply => Sys2Proof.Machine.execTxAliveReply s
  | .txLinkDiagnosisReply rxErr txErr totErr => Sys2Proof.Machine.execTxLinkDiagnosisReply rxErr txErr totErr s
  | .txBcAck => Sys2Proof.Machine.execTxBcAck s
  | .txBcNak => Sys2Proof.Machine.execTxBcNak s
  | .txFragmentSmallHeader tag len sum => Sys2Proof.Machine.execTxFragmentSmallHeader tag len sum s
  | .txFragmentSmallData index d0 d1 d2 d3 d4 d5 => Sys2Proof.Machine.execTxFragmentSmallData index d0 d1 d2 d3 d4 d5 s
  | .txFragmentLargeHeader tag len sum => Sys2Proof.Machine.execTxFragmentLargeHeader tag len sum s
  | .txFragmentLargeData p => Sys2Proof.Machine.execTxFragmentLargeData p s

end Sys2Proof.Machine
end

