-- ==== Sys2Proof/Machine/Step.lean ====
section
/-! DEFINITION. One step: accept the next stimulus and run the row it selects (spec/00_scope.md R3, R4; spec/20_memory.md R36). -/

namespace Sys2Proof.Machine

/-- One step of the block. With no stimulus pending the block is idle (R24) and the state stays as it is (log 16). -/
def step (s : State) : Host.Outcome State Fault Refusal :=
  match s.accept with
  | none => .next s
  | some (i, s') => exec i s'

/-- The state whose next step accepts the stimulus that the bits `w` are the record of (log 2, log 7). -/
def State.withFetchWord (s : State) (nbits w : Nat) : State := s.pushWord nbits w

end Sys2Proof.Machine
end

