-- ==== Sys2Proof/Safety.lean ====
section
/-! DEFINITION. The terms in which the statements speak of runs: the invariant of the Device record, the five lifecycle bits with
the transition table of spec/41_lifecycle.md R103, the selection of an opcode, and the receiver's
contract of spec/43_fragmentation.md R131, R132. Nothing here is used by the machine. -/

namespace Sys2Proof.Machine

/-! ### The invariant -/

/-- R115 and R117: a countdown that something has written lies between 0 and `N - 10` and is a multiple of 10; while nothing has
written it, a start is pending. -/
abbrev State.timerInv (s : State) : Prop :=
  (s.dev.countdown.written = true →
    0 ≤ s.dev.countdown.bits.toInt ∧ s.dev.countdown.bits.toInt ≤ (rearmInterval s.cfg : Int) - 10 ∧
      s.dev.countdown.bits.toInt % 10 = 0) ∧
  (s.dev.countdown.written = false → s.dev.forceStartPending = true)

/-- R22, R34: the CRC array is in its canonical form and holds no entry at or above `CRC_CAP`, nor above what a 16-bit index
reaches (R144). -/
abbrev State.crcInv (s : State) : Prop :=
  Memory.wf s.dev.crc ∧ ∀ e ∈ s.dev.crc, e.1 < s.cfg.crcCap ∧ e.1 < 65536

/-- Log 4: an unwritten register is in its one canonical form. -/
abbrev State.unwrittenInv (s : State) : Prop :=
  (s.dev.countdown.written = false → s.dev.countdown = Reg32.unwritten) ∧
  (s.dev.firmwareNewVersion.written = false → s.dev.firmwareNewVersion = Reg32.unwritten)

/-- The invariant of the Device record. -/
abbrev State.Inv (s : State) : Prop := s.timerInv ∧ s.crcInv ∧ s.unwrittenInv

/-! ### Runs -/

/-- `k` steps, stopping at the first fault or refusal: the host's `Host.Core.run` on this machine (`State.run_eq_core`). -/
def State.runSteps : Nat → State → Host.Outcome State Fault Refusal
  | 0, s => .next s
  | k + 1, s =>
    match step s with
    | .next t => State.runSteps k t
    | .fault r => .fault r
    | .refused r => .refused r

/-- `k` steps from a state. -/
abbrev State.run (s : State) (k : Nat) : Host.Outcome State Fault Refusal := State.runSteps k s

/-- The two states are the same but for `DEV.muted`. -/
abbrev sameButMuted (s s' : State) : Prop := s' = { s with dev := { s.dev with muted := s'.dev.muted } }

/-! ### The five lifecycle bits (R85) and the transition table (R103) -/

/-- `DEV.state` and the four flags. -/
structure LifecycleBits where
  state : Lifecycle
  muted : Bool
  identified : Bool
  forceStartPending : Bool
  firmwareUpdateActive : Bool
deriving DecidableEq, Repr

/-- The five bits of a state. -/
def State.lifecycleBits (s : State) : LifecycleBits where
  state := s.dev.state
  muted := s.dev.muted
  identified := s.dev.identified
  forceStartPending := s.dev.forceStartPending
  firmwareUpdateActive := s.dev.firmwareUpdateActive

/-- The row of R103's table for an instruction: what the five bits become on a running block. The outbound formats, which the
table does not list, leave them alone. -/
def transitionTable (cfg : Cfg) (b : LifecycleBits) : Instr → LifecycleBits
  | .boot _ =>
      { state := .offline, muted := false, identified := false, forceStartPending := true, firmwareUpdateActive := false }
  | .tick => { b with forceStartPending := false }
  | .baIdentifyUnknownExtensions =>
      { b with muted := false, forceStartPending := if b.identified then b.forceStartPending else true }
  | .baExtensionOffline | .baParkExtension | .ucExtensionOffline | .ucParkExtension =>
      { b with state := if cfg.offlineOnPark then .offline else b.state, muted := false, identified := false }
  | .ucIdentify =>
      { b with muted := false, identified := true, forceStartPending := true, firmwareUpdateActive := false }
  | .ucLedFlashPosition _ => { b with state := .online }
  | .ucMuteAll | .btMuteAll => { b with muted := true }
  | .btSoftwareUpdateInit hw marker version =>
      { b with firmwareUpdateActive :=
          decide (hw ≤ cfg.hwVersion) && (decide (marker = 0xDEAD#16) || decide (version ≠ cfg.fwVersion)) }
  | .btRebootAll _ _ => { b with muted := false, firmwareUpdateActive := false }
  | .baIdentifyLed | .baSyncTicks _ | .ucIdentifyLed | .ucAlive | .ucAliveReply | .ucLinkDiagnosisRequest _ _ _
  | .btSoftwareUpdateVerify _ _ | .btSoftwareUpdatePageCrc _ _ | .baOther _ | .btOther _ | .ucOther _ | .fdAny _
  | .fwAny _ | .haltedAny | .rxDiscardNat | .rxDiscardFrom _ | .rxUnmatched _ | .fragRefuseState _ _ _
  | .fragRefuseSize _ _ _ | .fragSmall _ _ _ | .fragLarge _ _ _ | .txStartRequest | .txAlive | .txAliveReply
  | .txLinkDiagnosisReply _ _ _ | .txBcAck | .txBcNak | .txFragmentSmallHeader _ _ _
  | .txFragmentSmallData _ _ _ _ _ _ _ | .txFragmentLargeHeader _ _ _ | .txFragmentLargeData _ => b

/-! ### Selection of an opcode -/

/-- `CC` is injective (R2, R48). -/
abbrev codesInjective (cfg : Cfg) : Prop := (CommandName.all.map cfg.cc.code).Nodup

/-- Every frame of category `c` with the code of `n` that a running block does not discard selects the row given (R70 to R74). -/
def opcodeSelects (c : Category) (n : CommandName) (row : RxFrame → ErrCounts → Instr) : Prop :=
  ∀ (ctx : Context) (f : RxFrame) (e : ErrCounts), ctx.halted = false → codesInjective ctx.cfg → discards f = false →
    classify ctx.cfg f.ident = some c → f.cmd = ctx.cfg.cc.code n → select ctx (.rx f e) = row f e

/-- The classification by extracted address fields (R79). -/
def classifyByFields (cfg : Cfg) (ident : Ident) : Option Category :=
  if ident = 0#29 then some .ba
  else if ident.extractLsb' 24 5 = cfg.deviceType.extractLsb' 0 5 ∧ ident.extractLsb' 0 24 = 0#24 ∧
      cfg.deviceType.extractLsb' 5 3 = 0#3 then some .bt
  else if ident.extractLsb' 28 1 = 1#1 ∧ ident.extractLsb' 0 28 = cfg.serial.extractLsb' 0 28 ∧
      cfg.serial.extractLsb' 29 3 = 0#3 then some .uc
  else if ident = cfg.serial.extractLsb' 0 29 ∧ cfg.serial.extractLsb' 29 3 = 0#3 then some .fd
  else if ident.extractLsb' 28 1 = 1#1 ∧ ident.extractLsb' 24 4 = 0xF#4 ∧ ident.extractLsb' 16 8 = cfg.deviceType then
    some .fw
  else none

/-! ### Outbound frames, field by field -/

/-- The outbound frame of R50 with a command code and a payload: `SERIAL[28:0]`, from-device, `TX_CMDDIR`. -/
def ownFrame (cfg : Cfg) (cmd : Byte) (p : Payload) : OutFrame where
  ident := cfg.serial.extractLsb' 0 29
  dir := .fromDevice
  cmd := cmd
  cmddir := cfg.txCmddir
  p := p

/-- The heartbeat's payload, byte by byte (R51). -/
def heartbeatBytes (cfg : Cfg) : Payload where
  p0 := cfg.hwVersion
  p1 := 0#8
  p2 := 0#8
  p3 := cfg.fwVersion.extractLsb' 0 8
  p4 := cfg.fwVersion.extractLsb' 8 8
  p5 := cfg.fwVersion.extractLsb' 16 8
  p6 := cfg.fwVersion.extractLsb' 24 8

/-- The payload of a fragment header, byte by byte (R54, R56). -/
def headerBytes (tag : Byte) (len sum : Half) : Payload where
  p0 := 0#8
  p1 := tag
  p2 := 0#8
  p3 := len.extractLsb' 0 8
  p4 := len.extractLsb' 8 8
  p5 := sum.extractLsb' 0 8
  p6 := sum.extractLsb' 8 8

/-! ### Ticks -/

/-- How many of the stimuli are ticks. -/
def tickCount (l : List Stimulus) : Nat := l.count .tick

/-! ### The receiver's contract (R131, R132) -/

/-- `L` as a receiver reads it from a header: `P[3] | P[4] << 8`. -/
def headerLength (f : OutFrame) : Nat := f.p.p3.toNat + 256 * f.p.p4.toNat

/-- `K` as a receiver reads it from a header: `P[5] | P[6] << 8`. -/
def headerSum (f : OutFrame) : Nat := f.p.p5.toNat + 256 * f.p.p6.toNat

/-- The sum of bytes modulo 65536 (R131). -/
def byteSum (bs : List Byte) : Nat := (bs.map BitVec.toNat).sum % 65536

/-- The six data bytes of a small-tier fragment. -/
def smallBytes (f : OutFrame) : List Byte := [f.p.p1, f.p.p2, f.p.p3, f.p.p4, f.p.p5, f.p.p6]

/-- The seven data bytes of a large-tier fragment. -/
def largeBytes (f : OutFrame) : List Byte := [f.p.p0, f.p.p1, f.p.p2, f.p.p3, f.p.p4, f.p.p5, f.p.p6]

/-- Small-tier reassembly (R131): the tag and the buffer, when the frames are one intact transfer in order. That it answers none on
a failed sum, and on missing, surplus, repeated or reordered data frames, is the model's choice: DESIGN CHOICE (log 23). -/
def receiveSmall (cc : CommandCodes) : List OutFrame → Option (Byte × List Byte)
  | [] => none
  | h :: data =>
    let bytes := (data.flatMap smallBytes).take (headerLength h)
    if h.cmd = cc.fragmentedPackage ∧ h.p.p0 = 0#8 ∧
        data.map (fun f => (f.cmd, f.p.p0.toNat)) =
          (List.range ((headerLength h + 5) / 6)).map (fun k => (cc.fragmentedPackage, k + 1)) ∧
        byteSum bytes = headerSum h
    then some (h.p.p1, bytes) else none

/-- Large-tier reassembly (R132): the tag and the buffer, when the frames, all of one identifier, are one intact transfer in
order. That it answers none on a failed sum, on any other number of data frames, and on one of another identifier or command, is the
model's choice: DESIGN CHOICE (log 23). -/
def receiveLarge (cc : CommandCodes) : List OutFrame → Option (Byte × List Byte)
  | [] => none
  | h :: data =>
    let bytes := (data.flatMap largeBytes).take (headerLength h)
    if h.cmd = cc.fragmentedLargeHeader ∧
        data.map (fun f => (f.cmd, f.ident)) =
          List.replicate ((headerLength h + 6) / 7) (cc.fragmentedLargeData, h.ident) ∧
        byteSum bytes = headerSum h
    then some (h.p.p1, bytes) else none

end Sys2Proof.Machine
end

