-- ==== Sys2Proof/Laws/State.lean ====
section
/-! SUPPORT. One lemma for each field and each update of the state, so that no later proof unfolds an update. -/

namespace Sys2Proof.Machine

@[simp] theorem Reg32.holding_bits (v : Word) : (Reg32.holding v).bits = v := rfl

@[simp] theorem Reg32.holding_written (v : Word) : (Reg32.holding v).written = true := rfl

@[simp] theorem Reg32.unwritten_written : Reg32.unwritten.written = false := rfl

/-! ### setLifecycle -/

@[simp] theorem State.setLifecycle_cfg (s : State) (l : Lifecycle) :
    (s.setLifecycle l).cfg = s.cfg := rfl

@[simp] theorem State.setLifecycle_inbox (s : State) (l : Lifecycle) :
    (s.setLifecycle l).inbox = s.inbox := rfl

@[simp] theorem State.setLifecycle_out (s : State) (l : Lifecycle) :
    (s.setLifecycle l).out = s.out := rfl

@[simp] theorem State.setLifecycle_draws (s : State) (l : Lifecycle) :
    (s.setLifecycle l).draws = s.draws := rfl

@[simp] theorem State.setLifecycle_dev_state (s : State) (l : Lifecycle) :
    (s.setLifecycle l).dev.state = l := rfl

@[simp] theorem State.setLifecycle_dev_muted (s : State) (l : Lifecycle) :
    (s.setLifecycle l).dev.muted = s.dev.muted := rfl

@[simp] theorem State.setLifecycle_dev_identified (s : State) (l : Lifecycle) :
    (s.setLifecycle l).dev.identified = s.dev.identified := rfl

@[simp] theorem State.setLifecycle_dev_forceStartPending (s : State) (l : Lifecycle) :
    (s.setLifecycle l).dev.forceStartPending = s.dev.forceStartPending := rfl

@[simp] theorem State.setLifecycle_dev_firmwareUpdateActive (s : State) (l : Lifecycle) :
    (s.setLifecycle l).dev.firmwareUpdateActive = s.dev.firmwareUpdateActive := rfl

@[simp] theorem State.setLifecycle_dev_countdown (s : State) (l : Lifecycle) :
    (s.setLifecycle l).dev.countdown = s.dev.countdown := rfl

@[simp] theorem State.setLifecycle_dev_firmwareNewVersion (s : State) (l : Lifecycle) :
    (s.setLifecycle l).dev.firmwareNewVersion = s.dev.firmwareNewVersion := rfl

@[simp] theorem State.setLifecycle_dev_crc (s : State) (l : Lifecycle) :
    (s.setLifecycle l).dev.crc = s.dev.crc := rfl

@[simp] theorem State.setLifecycle_dev_halted (s : State) (l : Lifecycle) :
    (s.setLifecycle l).dev.halted = s.dev.halted := rfl

/-! ### setMuted -/

@[simp] theorem State.setMuted_cfg (s : State) (b : Bool) :
    (s.setMuted b).cfg = s.cfg := rfl

@[simp] theorem State.setMuted_inbox (s : State) (b : Bool) :
    (s.setMuted b).inbox = s.inbox := rfl

@[simp] theorem State.setMuted_out (s : State) (b : Bool) :
    (s.setMuted b).out = s.out := rfl

@[simp] theorem State.setMuted_draws (s : State) (b : Bool) :
    (s.setMuted b).draws = s.draws := rfl

@[simp] theorem State.setMuted_dev_state (s : State) (b : Bool) :
    (s.setMuted b).dev.state = s.dev.state := rfl

@[simp] theorem State.setMuted_dev_muted (s : State) (b : Bool) :
    (s.setMuted b).dev.muted = b := rfl

@[simp] theorem State.setMuted_dev_identified (s : State) (b : Bool) :
    (s.setMuted b).dev.identified = s.dev.identified := rfl

@[simp] theorem State.setMuted_dev_forceStartPending (s : State) (b : Bool) :
    (s.setMuted b).dev.forceStartPending = s.dev.forceStartPending := rfl

@[simp] theorem State.setMuted_dev_firmwareUpdateActive (s : State) (b : Bool) :
    (s.setMuted b).dev.firmwareUpdateActive = s.dev.firmwareUpdateActive := rfl

@[simp] theorem State.setMuted_dev_countdown (s : State) (b : Bool) :
    (s.setMuted b).dev.countdown = s.dev.countdown := rfl

@[simp] theorem State.setMuted_dev_firmwareNewVersion (s : State) (b : Bool) :
    (s.setMuted b).dev.firmwareNewVersion = s.dev.firmwareNewVersion := rfl

@[simp] theorem State.setMuted_dev_crc (s : State) (b : Bool) :
    (s.setMuted b).dev.crc = s.dev.crc := rfl

@[simp] theorem State.setMuted_dev_halted (s : State) (b : Bool) :
    (s.setMuted b).dev.halted = s.dev.halted := rfl

/-! ### setIdentified -/

@[simp] theorem State.setIdentified_cfg (s : State) (b : Bool) :
    (s.setIdentified b).cfg = s.cfg := rfl

@[simp] theorem State.setIdentified_inbox (s : State) (b : Bool) :
    (s.setIdentified b).inbox = s.inbox := rfl

@[simp] theorem State.setIdentified_out (s : State) (b : Bool) :
    (s.setIdentified b).out = s.out := rfl

@[simp] theorem State.setIdentified_draws (s : State) (b : Bool) :
    (s.setIdentified b).draws = s.draws := rfl

@[simp] theorem State.setIdentified_dev_state (s : State) (b : Bool) :
    (s.setIdentified b).dev.state = s.dev.state := rfl

@[simp] theorem State.setIdentified_dev_muted (s : State) (b : Bool) :
    (s.setIdentified b).dev.muted = s.dev.muted := rfl

@[simp] theorem State.setIdentified_dev_identified (s : State) (b : Bool) :
    (s.setIdentified b).dev.identified = b := rfl

@[simp] theorem State.setIdentified_dev_forceStartPending (s : State) (b : Bool) :
    (s.setIdentified b).dev.forceStartPending = s.dev.forceStartPending := rfl

@[simp] theorem State.setIdentified_dev_firmwareUpdateActive (s : State) (b : Bool) :
    (s.setIdentified b).dev.firmwareUpdateActive = s.dev.firmwareUpdateActive := rfl

@[simp] theorem State.setIdentified_dev_countdown (s : State) (b : Bool) :
    (s.setIdentified b).dev.countdown = s.dev.countdown := rfl

@[simp] theorem State.setIdentified_dev_firmwareNewVersion (s : State) (b : Bool) :
    (s.setIdentified b).dev.firmwareNewVersion = s.dev.firmwareNewVersion := rfl

@[simp] theorem State.setIdentified_dev_crc (s : State) (b : Bool) :
    (s.setIdentified b).dev.crc = s.dev.crc := rfl

@[simp] theorem State.setIdentified_dev_halted (s : State) (b : Bool) :
    (s.setIdentified b).dev.halted = s.dev.halted := rfl

/-! ### setForceStart -/

@[simp] theorem State.setForceStart_cfg (s : State) (b : Bool) :
    (s.setForceStart b).cfg = s.cfg := rfl

@[simp] theorem State.setForceStart_inbox (s : State) (b : Bool) :
    (s.setForceStart b).inbox = s.inbox := rfl

@[simp] theorem State.setForceStart_out (s : State) (b : Bool) :
    (s.setForceStart b).out = s.out := rfl

@[simp] theorem State.setForceStart_draws (s : State) (b : Bool) :
    (s.setForceStart b).draws = s.draws := rfl

@[simp] theorem State.setForceStart_dev_state (s : State) (b : Bool) :
    (s.setForceStart b).dev.state = s.dev.state := rfl

@[simp] theorem State.setForceStart_dev_muted (s : State) (b : Bool) :
    (s.setForceStart b).dev.muted = s.dev.muted := rfl

@[simp] theorem State.setForceStart_dev_identified (s : State) (b : Bool) :
    (s.setForceStart b).dev.identified = s.dev.identified := rfl

@[simp] theorem State.setForceStart_dev_forceStartPending (s : State) (b : Bool) :
    (s.setForceStart b).dev.forceStartPending = b := rfl

@[simp] theorem State.setForceStart_dev_firmwareUpdateActive (s : State) (b : Bool) :
    (s.setForceStart b).dev.firmwareUpdateActive = s.dev.firmwareUpdateActive := rfl

@[simp] theorem State.setForceStart_dev_countdown (s : State) (b : Bool) :
    (s.setForceStart b).dev.countdown = s.dev.countdown := rfl

@[simp] theorem State.setForceStart_dev_firmwareNewVersion (s : State) (b : Bool) :
    (s.setForceStart b).dev.firmwareNewVersion = s.dev.firmwareNewVersion := rfl

@[simp] theorem State.setForceStart_dev_crc (s : State) (b : Bool) :
    (s.setForceStart b).dev.crc = s.dev.crc := rfl

@[simp] theorem State.setForceStart_dev_halted (s : State) (b : Bool) :
    (s.setForceStart b).dev.halted = s.dev.halted := rfl

/-! ### setUpdateActive -/

@[simp] theorem State.setUpdateActive_cfg (s : State) (b : Bool) :
    (s.setUpdateActive b).cfg = s.cfg := rfl

@[simp] theorem State.setUpdateActive_inbox (s : State) (b : Bool) :
    (s.setUpdateActive b).inbox = s.inbox := rfl

@[simp] theorem State.setUpdateActive_out (s : State) (b : Bool) :
    (s.setUpdateActive b).out = s.out := rfl

@[simp] theorem State.setUpdateActive_draws (s : State) (b : Bool) :
    (s.setUpdateActive b).draws = s.draws := rfl

@[simp] theorem State.setUpdateActive_dev_state (s : State) (b : Bool) :
    (s.setUpdateActive b).dev.state = s.dev.state := rfl

@[simp] theorem State.setUpdateActive_dev_muted (s : State) (b : Bool) :
    (s.setUpdateActive b).dev.muted = s.dev.muted := rfl

@[simp] theorem State.setUpdateActive_dev_identified (s : State) (b : Bool) :
    (s.setUpdateActive b).dev.identified = s.dev.identified := rfl

@[simp] theorem State.setUpdateActive_dev_forceStartPending (s : State) (b : Bool) :
    (s.setUpdateActive b).dev.forceStartPending = s.dev.forceStartPending := rfl

@[simp] theorem State.setUpdateActive_dev_firmwareUpdateActive (s : State) (b : Bool) :
    (s.setUpdateActive b).dev.firmwareUpdateActive = b := rfl

@[simp] theorem State.setUpdateActive_dev_countdown (s : State) (b : Bool) :
    (s.setUpdateActive b).dev.countdown = s.dev.countdown := rfl

@[simp] theorem State.setUpdateActive_dev_firmwareNewVersion (s : State) (b : Bool) :
    (s.setUpdateActive b).dev.firmwareNewVersion = s.dev.firmwareNewVersion := rfl

@[simp] theorem State.setUpdateActive_dev_crc (s : State) (b : Bool) :
    (s.setUpdateActive b).dev.crc = s.dev.crc := rfl

@[simp] theorem State.setUpdateActive_dev_halted (s : State) (b : Bool) :
    (s.setUpdateActive b).dev.halted = s.dev.halted := rfl

/-! ### setCountdown -/

@[simp] theorem State.setCountdown_cfg (s : State) (v : Word) :
    (s.setCountdown v).cfg = s.cfg := rfl

@[simp] theorem State.setCountdown_inbox (s : State) (v : Word) :
    (s.setCountdown v).inbox = s.inbox := rfl

@[simp] theorem State.setCountdown_out (s : State) (v : Word) :
    (s.setCountdown v).out = s.out := rfl

@[simp] theorem State.setCountdown_draws (s : State) (v : Word) :
    (s.setCountdown v).draws = s.draws := rfl

@[simp] theorem State.setCountdown_dev_state (s : State) (v : Word) :
    (s.setCountdown v).dev.state = s.dev.state := rfl

@[simp] theorem State.setCountdown_dev_muted (s : State) (v : Word) :
    (s.setCountdown v).dev.muted = s.dev.muted := rfl

@[simp] theorem State.setCountdown_dev_identified (s : State) (v : Word) :
    (s.setCountdown v).dev.identified = s.dev.identified := rfl

@[simp] theorem State.setCountdown_dev_forceStartPending (s : State) (v : Word) :
    (s.setCountdown v).dev.forceStartPending = s.dev.forceStartPending := rfl

@[simp] theorem State.setCountdown_dev_firmwareUpdateActive (s : State) (v : Word) :
    (s.setCountdown v).dev.firmwareUpdateActive = s.dev.firmwareUpdateActive := rfl

@[simp] theorem State.setCountdown_dev_countdown (s : State) (v : Word) :
    (s.setCountdown v).dev.countdown = Reg32.holding v := rfl

@[simp] theorem State.setCountdown_dev_firmwareNewVersion (s : State) (v : Word) :
    (s.setCountdown v).dev.firmwareNewVersion = s.dev.firmwareNewVersion := rfl

@[simp] theorem State.setCountdown_dev_crc (s : State) (v : Word) :
    (s.setCountdown v).dev.crc = s.dev.crc := rfl

@[simp] theorem State.setCountdown_dev_halted (s : State) (v : Word) :
    (s.setCountdown v).dev.halted = s.dev.halted := rfl

/-! ### setNewVersion -/

@[simp] theorem State.setNewVersion_cfg (s : State) (v : Word) :
    (s.setNewVersion v).cfg = s.cfg := rfl

@[simp] theorem State.setNewVersion_inbox (s : State) (v : Word) :
    (s.setNewVersion v).inbox = s.inbox := rfl

@[simp] theorem State.setNewVersion_out (s : State) (v : Word) :
    (s.setNewVersion v).out = s.out := rfl

@[simp] theorem State.setNewVersion_draws (s : State) (v : Word) :
    (s.setNewVersion v).draws = s.draws := rfl

@[simp] theorem State.setNewVersion_dev_state (s : State) (v : Word) :
    (s.setNewVersion v).dev.state = s.dev.state := rfl

@[simp] theorem State.setNewVersion_dev_muted (s : State) (v : Word) :
    (s.setNewVersion v).dev.muted = s.dev.muted := rfl

@[simp] theorem State.setNewVersion_dev_identified (s : State) (v : Word) :
    (s.setNewVersion v).dev.identified = s.dev.identified := rfl

@[simp] theorem State.setNewVersion_dev_forceStartPending (s : State) (v : Word) :
    (s.setNewVersion v).dev.forceStartPending = s.dev.forceStartPending := rfl

@[simp] theorem State.setNewVersion_dev_firmwareUpdateActive (s : State) (v : Word) :
    (s.setNewVersion v).dev.firmwareUpdateActive = s.dev.firmwareUpdateActive := rfl

@[simp] theorem State.setNewVersion_dev_countdown (s : State) (v : Word) :
    (s.setNewVersion v).dev.countdown = s.dev.countdown := rfl

@[simp] theorem State.setNewVersion_dev_firmwareNewVersion (s : State) (v : Word) :
    (s.setNewVersion v).dev.firmwareNewVersion = Reg32.holding v := rfl

@[simp] theorem State.setNewVersion_dev_crc (s : State) (v : Word) :
    (s.setNewVersion v).dev.crc = s.dev.crc := rfl

@[simp] theorem State.setNewVersion_dev_halted (s : State) (v : Word) :
    (s.setNewVersion v).dev.halted = s.dev.halted := rfl

/-! ### rearm -/

@[simp] theorem State.rearm_cfg (s : State) :
    (s.rearm).cfg = s.cfg :=
  State.setCountdown_cfg s _

@[simp] theorem State.rearm_inbox (s : State) :
    (s.rearm).inbox = s.inbox :=
  State.setCountdown_inbox s _

@[simp] theorem State.rearm_out (s : State) :
    (s.rearm).out = s.out :=
  State.setCountdown_out s _

@[simp] theorem State.rearm_draws (s : State) :
    (s.rearm).draws = s.draws :=
  State.setCountdown_draws s _

@[simp] theorem State.rearm_dev_state (s : State) :
    (s.rearm).dev.state = s.dev.state :=
  State.setCountdown_dev_state s _

@[simp] theorem State.rearm_dev_muted (s : State) :
    (s.rearm).dev.muted = s.dev.muted :=
  State.setCountdown_dev_muted s _

@[simp] theorem State.rearm_dev_identified (s : State) :
    (s.rearm).dev.identified = s.dev.identified :=
  State.setCountdown_dev_identified s _

@[simp] theorem State.rearm_dev_forceStartPending (s : State) :
    (s.rearm).dev.forceStartPending = s.dev.forceStartPending :=
  State.setCountdown_dev_forceStartPending s _

@[simp] theorem State.rearm_dev_firmwareUpdateActive (s : State) :
    (s.rearm).dev.firmwareUpdateActive = s.dev.firmwareUpdateActive :=
  State.setCountdown_dev_firmwareUpdateActive s _

@[simp] theorem State.rearm_dev_countdown (s : State) :
    (s.rearm).dev.countdown = Reg32.holding (rearmValue s.cfg) :=
  State.setCountdown_dev_countdown s _

@[simp] theorem State.rearm_dev_firmwareNewVersion (s : State) :
    (s.rearm).dev.firmwareNewVersion = s.dev.firmwareNewVersion :=
  State.setCountdown_dev_firmwareNewVersion s _

@[simp] theorem State.rearm_dev_crc (s : State) :
    (s.rearm).dev.crc = s.dev.crc :=
  State.setCountdown_dev_crc s _

@[simp] theorem State.rearm_dev_halted (s : State) :
    (s.rearm).dev.halted = s.dev.halted :=
  State.setCountdown_dev_halted s _

/-! ### stepCountdown -/

@[simp] theorem State.stepCountdown_cfg (s : State) :
    (s.stepCountdown).cfg = s.cfg :=
  State.setCountdown_cfg s _

@[simp] theorem State.stepCountdown_inbox (s : State) :
    (s.stepCountdown).inbox = s.inbox :=
  State.setCountdown_inbox s _

@[simp] theorem State.stepCountdown_out (s : State) :
    (s.stepCountdown).out = s.out :=
  State.setCountdown_out s _

@[simp] theorem State.stepCountdown_draws (s : State) :
    (s.stepCountdown).draws = s.draws :=
  State.setCountdown_draws s _

@[simp] theorem State.stepCountdown_dev_state (s : State) :
    (s.stepCountdown).dev.state = s.dev.state :=
  State.setCountdown_dev_state s _

@[simp] theorem State.stepCountdown_dev_muted (s : State) :
    (s.stepCountdown).dev.muted = s.dev.muted :=
  State.setCountdown_dev_muted s _

@[simp] theorem State.stepCountdown_dev_identified (s : State) :
    (s.stepCountdown).dev.identified = s.dev.identified :=
  State.setCountdown_dev_identified s _

@[simp] theorem State.stepCountdown_dev_forceStartPending (s : State) :
    (s.stepCountdown).dev.forceStartPending = s.dev.forceStartPending :=
  State.setCountdown_dev_forceStartPending s _

@[simp] theorem State.stepCountdown_dev_firmwareUpdateActive (s : State) :
    (s.stepCountdown).dev.firmwareUpdateActive = s.dev.firmwareUpdateActive :=
  State.setCountdown_dev_firmwareUpdateActive s _

@[simp] theorem State.stepCountdown_dev_countdown (s : State) :
    (s.stepCountdown).dev.countdown = Reg32.holding (s.dev.countdown.bits - BitVec.ofNat 32 Config.tickMs) :=
  State.setCountdown_dev_countdown s _

@[simp] theorem State.stepCountdown_dev_firmwareNewVersion (s : State) :
    (s.stepCountdown).dev.firmwareNewVersion = s.dev.firmwareNewVersion :=
  State.setCountdown_dev_firmwareNewVersion s _

@[simp] theorem State.stepCountdown_dev_crc (s : State) :
    (s.stepCountdown).dev.crc = s.dev.crc :=
  State.setCountdown_dev_crc s _

@[simp] theorem State.stepCountdown_dev_halted (s : State) :
    (s.stepCountdown).dev.halted = s.dev.halted :=
  State.setCountdown_dev_halted s _

/-! ### requestReset -/

@[simp] theorem State.requestReset_cfg (s : State) :
    (s.requestReset).cfg = s.cfg := rfl

@[simp] theorem State.requestReset_inbox (s : State) :
    (s.requestReset).inbox = s.inbox := rfl

@[simp] theorem State.requestReset_out (s : State) :
    (s.requestReset).out = s.out ++ [.reset] := rfl

@[simp] theorem State.requestReset_draws (s : State) :
    (s.requestReset).draws = s.draws := rfl

@[simp] theorem State.requestReset_dev_state (s : State) :
    (s.requestReset).dev.state = s.dev.state := rfl

@[simp] theorem State.requestReset_dev_muted (s : State) :
    (s.requestReset).dev.muted = s.dev.muted := rfl

@[simp] theorem State.requestReset_dev_identified (s : State) :
    (s.requestReset).dev.identified = s.dev.identified := rfl

@[simp] theorem State.requestReset_dev_forceStartPending (s : State) :
    (s.requestReset).dev.forceStartPending = s.dev.forceStartPending := rfl

@[simp] theorem State.requestReset_dev_firmwareUpdateActive (s : State) :
    (s.requestReset).dev.firmwareUpdateActive = s.dev.firmwareUpdateActive := rfl

@[simp] theorem State.requestReset_dev_countdown (s : State) :
    (s.requestReset).dev.countdown = s.dev.countdown := rfl

@[simp] theorem State.requestReset_dev_firmwareNewVersion (s : State) :
    (s.requestReset).dev.firmwareNewVersion = s.dev.firmwareNewVersion := rfl

@[simp] theorem State.requestReset_dev_crc (s : State) :
    (s.requestReset).dev.crc = s.dev.crc := rfl

@[simp] theorem State.requestReset_dev_halted (s : State) :
    (s.requestReset).dev.halted = true := rfl

/-! ### emit -/

@[simp] theorem State.emit_cfg (s : State) (a : Action) :
    (s.emit a).cfg = s.cfg := rfl

@[simp] theorem State.emit_inbox (s : State) (a : Action) :
    (s.emit a).inbox = s.inbox := rfl

@[simp] theorem State.emit_out (s : State) (a : Action) :
    (s.emit a).out = s.out ++ [a] := rfl

@[simp] theorem State.emit_draws (s : State) (a : Action) :
    (s.emit a).draws = s.draws := rfl

@[simp] theorem State.emit_dev (s : State) (a : Action) :
    (s.emit a).dev = s.dev := rfl

/-! ### emitAll -/

@[simp] theorem State.emitAll_cfg (s : State) (as : List Action) :
    (s.emitAll as).cfg = s.cfg := rfl

@[simp] theorem State.emitAll_inbox (s : State) (as : List Action) :
    (s.emitAll as).inbox = s.inbox := rfl

@[simp] theorem State.emitAll_out (s : State) (as : List Action) :
    (s.emitAll as).out = s.out ++ as := rfl

@[simp] theorem State.emitAll_draws (s : State) (as : List Action) :
    (s.emitAll as).draws = s.draws := rfl

@[simp] theorem State.emitAll_dev (s : State) (as : List Action) :
    (s.emitAll as).dev = s.dev := rfl

/-! ### send -/

@[simp] theorem State.send_cfg (s : State) (f : OutFrame) :
    (s.send f).cfg = s.cfg := rfl

@[simp] theorem State.send_inbox (s : State) (f : OutFrame) :
    (s.send f).inbox = s.inbox := rfl

@[simp] theorem State.send_out (s : State) (f : OutFrame) :
    (s.send f).out = s.out ++ [.tx f] := rfl

@[simp] theorem State.send_draws (s : State) (f : OutFrame) :
    (s.send f).draws = s.draws := rfl

@[simp] theorem State.send_dev (s : State) (f : OutFrame) :
    (s.send f).dev = s.dev := rfl

/-! ### sendAll -/

@[simp] theorem State.sendAll_cfg (s : State) (fs : List OutFrame) :
    (s.sendAll fs).cfg = s.cfg := rfl

@[simp] theorem State.sendAll_inbox (s : State) (fs : List OutFrame) :
    (s.sendAll fs).inbox = s.inbox := rfl

@[simp] theorem State.sendAll_out (s : State) (fs : List OutFrame) :
    (s.sendAll fs).out = s.out ++ fs.map .tx := rfl

@[simp] theorem State.sendAll_draws (s : State) (fs : List OutFrame) :
    (s.sendAll fs).draws = s.draws := rfl

@[simp] theorem State.sendAll_dev (s : State) (fs : List OutFrame) :
    (s.sendAll fs).dev = s.dev := rfl

/-! ### pulse -/

@[simp] theorem State.pulse_cfg (s : State) (k : PulseKind) :
    (s.pulse k).cfg = s.cfg := rfl

@[simp] theorem State.pulse_inbox (s : State) (k : PulseKind) :
    (s.pulse k).inbox = s.inbox := rfl

@[simp] theorem State.pulse_out (s : State) (k : PulseKind) :
    (s.pulse k).out = s.out ++ [.pulse k (s.cfg.pulseColor.color k)] := rfl

@[simp] theorem State.pulse_draws (s : State) (k : PulseKind) :
    (s.pulse k).draws = s.draws := rfl

@[simp] theorem State.pulse_dev (s : State) (k : PulseKind) :
    (s.pulse k).dev = s.dev := rfl

/-! ### sendHeartbeat -/

@[simp] theorem State.sendHeartbeat_cfg (s : State) (c : CommandName) :
    (s.sendHeartbeat c).cfg = s.cfg := rfl

@[simp] theorem State.sendHeartbeat_inbox (s : State) (c : CommandName) :
    (s.sendHeartbeat c).inbox = s.inbox := rfl

@[simp] theorem State.sendHeartbeat_out (s : State) (c : CommandName) :
    (s.sendHeartbeat c).out = s.out ++ [.tx (heartbeatFrame s.cfg c)] := rfl

@[simp] theorem State.sendHeartbeat_draws (s : State) (c : CommandName) :
    (s.sendHeartbeat c).draws = s.draws := rfl

@[simp] theorem State.sendHeartbeat_dev (s : State) (c : CommandName) :
    (s.sendHeartbeat c).dev = s.dev := rfl

/-! ### bootWith -/

@[simp] theorem State.bootWith_fwVersion (s : State) (cfg : Cfg) :
    (s.bootWith cfg).cfg.fwVersion = cfg.fwVersion := rfl

/-- Booting leaves the three immutable fields as they are (R11, R12, R13). -/
theorem State.bootWith_constants (s : State) (cfg : Cfg) :
    (s.bootWith cfg).cfg.serial = s.cfg.serial ∧ (s.bootWith cfg).cfg.deviceType = s.cfg.deviceType ∧
      (s.bootWith cfg).cfg.hwVersion = s.cfg.hwVersion := ⟨rfl, rfl, rfl⟩

@[simp] theorem State.bootWith_cfg (s : State) (cfg : Cfg) :
    (s.bootWith cfg).cfg = { s.cfg with fwVersion := cfg.fwVersion } := rfl

@[simp] theorem State.bootWith_inbox (s : State) (cfg : Cfg) :
    (s.bootWith cfg).inbox = s.inbox := rfl

@[simp] theorem State.bootWith_out (s : State) (cfg : Cfg) :
    (s.bootWith cfg).out = s.out := rfl

@[simp] theorem State.bootWith_draws (s : State) (cfg : Cfg) :
    (s.bootWith cfg).draws = s.draws := rfl

@[simp] theorem State.bootWith_dev (s : State) (cfg : Cfg) :
    (s.bootWith cfg).dev = Device.atBoot := rfl

/-! ### pushStimulus -/

@[simp] theorem State.pushStimulus_cfg (s : State) (st : Stimulus) :
    (s.pushStimulus st).cfg = s.cfg := rfl

@[simp] theorem State.pushStimulus_inbox (s : State) (st : Stimulus) :
    (s.pushStimulus st).inbox = st :: s.inbox := rfl

@[simp] theorem State.pushStimulus_out (s : State) (st : Stimulus) :
    (s.pushStimulus st).out = s.out := rfl

@[simp] theorem State.pushStimulus_draws (s : State) (st : Stimulus) :
    (s.pushStimulus st).draws = s.draws := rfl

@[simp] theorem State.pushStimulus_dev (s : State) (st : Stimulus) :
    (s.pushStimulus st).dev = s.dev := rfl

end Sys2Proof.Machine
end

