-- ==== Sys2Proof/Laws/Memory.lean ====
section
/-! SUPPORT. The CRC array: read after write, every other entry kept, the canonical form kept (spec/20_memory.md R34). -/

namespace Sys2Proof.Machine

@[simp] theorem Memory.read_nil (i : Nat) : Memory.read [] i = none := rfl

theorem Memory.read_cons (j : Nat) (w : BitVec Config.crcWidth) (m : Memory) (i : Nat) :
    Memory.read ((j, w) :: m) i = if i = j then some w else Memory.read m i := by
  by_cases h : i = j
  · subst h; simp [Memory.read]
  · have hb : (i == j) = false := beq_false_of_ne h
    simp [Memory.read, List.lookup_cons, hb, h]

/-- A read of the entry just written gives the value written. -/
theorem Memory.read_write_same (m : Memory) (i : Nat) (v : BitVec Config.crcWidth) : (m.write i v).read i = some v := by
  induction m with
  | nil => simp [Memory.write, Memory.read_cons]
  | cons e rest ih =>
    obtain ⟨j, w⟩ := e
    simp only [Memory.write]
    split
    · simp [Memory.read_cons]
    · split
      · simp [Memory.read_cons]
      · next hne => rw [Memory.read_cons, if_neg hne, ih]

/-- A write leaves every other entry alone. -/
theorem Memory.read_write_other (m : Memory) (i k : Nat) (v : BitVec Config.crcWidth) (hk : k ≠ i) :
    (m.write i v).read k = m.read k := by
  induction m with
  | nil => simp [Memory.write, Memory.read_cons, hk]
  | cons e rest ih =>
    obtain ⟨j, w⟩ := e
    simp only [Memory.write]
    split
    · rw [Memory.read_cons, if_neg hk]
    · split
      · next hij => subst hij; rw [Memory.read_cons, Memory.read_cons, if_neg hk, if_neg hk]
      · rw [Memory.read_cons, Memory.read_cons, ih]

/-- The entries after a write are the written one and old ones. -/
theorem Memory.mem_write (m : Memory) (i : Nat) (v : BitVec Config.crcWidth) (e : Nat × BitVec Config.crcWidth)
    (he : e ∈ m.write i v) : e = (i, v) ∨ e ∈ m := by
  induction m with
  | nil => simpa [Memory.write] using he
  | cons d rest ih =>
    obtain ⟨j, w⟩ := d
    simp only [Memory.write] at he
    split at he
    · simpa using he
    · split at he
      · rcases List.mem_cons.1 he with h | h
        · exact .inl h
        · exact .inr (List.mem_cons_of_mem _ h)
      · rcases List.mem_cons.1 he with h | h
        · exact .inr (h ▸ List.mem_cons_self)
        · rcases ih h with h | h
          · exact .inl h
          · exact .inr (List.mem_cons_of_mem _ h)

/-- A write keeps the canonical form. -/
theorem Memory.write_wf (m : Memory) (i : Nat) (v : BitVec Config.crcWidth) (h : m.wf) : (m.write i v).wf := by
  induction m with
  | nil => simp [Memory.write, Memory.wf]
  | cons e rest ih =>
    obtain ⟨j, w⟩ := e
    simp only [Memory.wf, List.map_cons, List.pairwise_cons] at h
    obtain ⟨hj, hrest⟩ := h
    simp only [Memory.write]
    split
    · next hlt =>
      simp only [Memory.wf, List.map_cons, List.pairwise_cons, List.mem_cons]
      exact ⟨fun a ha => ha.elim (· ▸ hlt) (fun ha => hlt.trans (hj a ha)), hj, hrest⟩
    · split
      · next hij =>
        subst hij
        simp only [Memory.wf, List.map_cons, List.pairwise_cons]
        exact ⟨hj, hrest⟩
      · next hnlt hne =>
        simp only [Memory.wf, List.map_cons, List.pairwise_cons]
        refine ⟨fun a ha => ?_, ih hrest⟩
        obtain ⟨e, he, rfl⟩ := List.mem_map.1 ha
        rcases Memory.mem_write rest i v e he with rfl | hmem
        · exact lt_of_le_of_ne (not_lt.1 hnlt) (Ne.symm hne)
        · exact hj _ (List.mem_map_of_mem hmem)

/-- The array right after reset is in canonical form. -/
theorem Memory.reset_wf : Memory.wf State.reset.dev.crc := by decide

/-- The bounded store keeps the canonical form and the bound (R34). -/
theorem State.storeCrc_crcInv (s : State) (i : Nat) (v : BitVec Config.crcWidth) (hi : i < 65536) (h : s.crcInv) :
    (s.storeCrc i v).crcInv := by
  unfold State.storeCrc
  split
  · next hlt =>
    refine ⟨Memory.write_wf _ _ _ h.1, fun e he => ?_⟩
    rcases Memory.mem_write _ _ _ _ he with rfl | hmem
    · exact ⟨hlt, hi⟩
    · exact h.2 e hmem
  · exact h

end Sys2Proof.Machine
end

