-- ==== Sys2Proof/Laws/Ops.lean ====
section
/-! SUPPORT. For each shared operation, one lemma that says once everything it can do. -/

namespace Sys2Proof.Machine

/-- A step of a block that is not halted answers the state given. -/
@[simp] theorem whileRunning_running {s t : State} (h : s.dev.halted = false) : whileRunning s t = .next t := by
  simp [whileRunning, h]

/-- A step of a halted block changes nothing (R23). -/
@[simp] theorem whileRunning_halted {s t : State} (h : s.dev.halted = true) : whileRunning s t = .next s := by
  simp [whileRunning, h]

/-- All that a guarded step can answer. -/
theorem whileRunning_cases {s t : State} {o : Host.Outcome State Fault Refusal} (h : whileRunning s t = o) :
    (s.dev.halted = true ∧ o = .next s) ∨ (s.dev.halted = false ∧ o = .next t) := by
  cases hh : s.dev.halted
  · exact .inr ⟨rfl, by simpa [hh] using h.symm⟩
  · exact .inl ⟨rfl, by simpa [hh] using h.symm⟩

/-- A buffer holds the request (R33). -/
theorem bufferHolds_iff (buf : List Byte) (byteCount : Word) :
    bufferHolds buf byteCount = true ↔ byteCount.toNat ≤ buf.length := by
  unfold bufferHolds requestLength
  exact decide_eq_true_iff

/-- All that a transfer can answer (R120, R121, R33). -/
theorem transfer_cases {tag : Byte} {byteCount : Word} {buf : List Byte} {frames : List OutFrame} {s : State}
    {o : Host.Outcome State Fault Refusal} (h : transfer tag byteCount buf frames s = o) :
    ((s.dev.halted = true ∨ (s.dev.state ≠ .online ∧ tag ≠ s.cfg.tagExtPageCrc)) ∧ o = .next s) ∨
    (s.dev.halted = false ∧ (s.dev.state = .online ∨ tag = s.cfg.tagExtPageCrc) ∧
      ((byteCount.toNat ≤ buf.length ∧ o = .next (s.sendAll frames)) ∨
        (buf.length < byteCount.toNat ∧ o = .refused .shortBuffer))) := by
  unfold transfer at h
  split at h
  · next hc =>
    refine .inl ⟨?_, h.symm⟩
    simpa [fragGate] using hc
  · next hc =>
    have hc' : s.dev.halted = false ∧ (s.dev.state = .online ∨ tag = s.cfg.tagExtPageCrc) := by
      simpa [fragGate, imp_iff_not_or] using hc
    refine .inr ⟨hc'.1, hc'.2, ?_⟩
    split at h
    · next hb => exact .inl ⟨(bufferHolds_iff _ _).1 hb, h.symm⟩
    · next hb => exact .inr ⟨not_le.1 (fun hc => hb ((bufferHolds_iff _ _).2 hc)), h.symm⟩

/-- What a transfer that passes the gate with a full buffer does. -/
theorem transfer_accepted {tag : Byte} {byteCount : Word} {buf : List Byte} {frames : List OutFrame} {s : State}
    (hr : s.dev.halted = false) (hg : s.dev.state = .online ∨ tag = s.cfg.tagExtPageCrc)
    (hb : byteCount.toNat ≤ buf.length) : transfer tag byteCount buf frames s = .next (s.sendAll frames) := by
  have h1 : ¬ (s.dev.halted || !fragGate s.cfg (decide (s.dev.state = .online)) tag) = true := by
    rcases hg with h | h <;> simp [hr, fragGate, h]
  have h2 : bufferHolds buf byteCount = true := (bufferHolds_iff _ _).2 hb
  rw [transfer, if_neg h1, if_pos h2]

/-- The bounded store: the entry, or nothing anywhere (R34). -/
theorem State.storeCrc_cases (s : State) (i : Nat) (v : BitVec Config.crcWidth) :
    (i < s.cfg.crcCap ∧ s.storeCrc i v = { s with dev := { s.dev with crc := s.dev.crc.write i v } }) ∨
    (s.cfg.crcCap ≤ i ∧ s.storeCrc i v = s) := by
  unfold State.storeCrc
  split
  · next h => exact .inl ⟨h, rfl⟩
  · next h => exact .inr ⟨not_lt.1 h, rfl⟩

/-- The orphan procedure (R100). -/
theorem State.orphan_eq (s : State) :
    s.orphan =
      { s with
        dev := { s.dev with muted := false, identified := false,
                            state := if s.cfg.offlineOnPark then .offline else s.dev.state },
        out := s.out ++ [.pulse .orphaned s.cfg.pulseColor.orphaned] } := by
  cases h : s.cfg.offlineOnPark <;>
    simp [State.orphan, h, State.setMuted, State.setIdentified, State.setLifecycle, State.pulse, State.emit,
      PulseColors.color]

/-- Settling a written countdown does nothing. -/
@[simp] theorem State.settleCountdown_written {s : State} (h : s.dev.countdown.written = true) : s.settleCountdown = s := by
  simp [State.settleCountdown, h]

/-- Settling an unwritten countdown gives it a free value (log 5). -/
theorem State.settleCountdown_unwritten {s : State} (h : s.dev.countdown.written = false) :
    s.settleCountdown =
      { s with dev := { s.dev with countdown := Reg32.holding (Config.unwrittenCountdown s.draws) },
               draws := s.draws + 1 } := by
  simp [State.settleCountdown, h, State.setCountdown]

/-- All that the first two steps of a tick can do (R112). -/
theorem State.tickHeartbeat_cases (s : State) :
    (s.dev.forceStartPending = true ∧
      s.tickHeartbeat = ((s.setForceStart false).rearm).sendHeartbeat .startRequest) ∨
    (s.dev.forceStartPending = false ∧ s.settleCountdown.dev.countdown.bits.toInt ≤ 0 ∧
      s.tickHeartbeat = s.settleCountdown.rearm.sendHeartbeat .alive) ∨
    (s.dev.forceStartPending = false ∧ 0 < s.settleCountdown.dev.countdown.bits.toInt ∧
      s.tickHeartbeat = s.settleCountdown) := by
  unfold State.tickHeartbeat
  cases hf : s.dev.forceStartPending
  · by_cases hc : s.settleCountdown.dev.countdown.bits.toInt ≤ 0
    · exact .inr (.inl ⟨rfl, hc, by simp [countdownExpired, hc]⟩)
    · exact .inr (.inr ⟨rfl, not_le.1 hc, by simp [countdownExpired, hc]⟩)
  · exact .inl ⟨rfl, by simp⟩

/-- Accepting a stimulus: the row it selects, the stimulus off the schedule. -/
theorem State.accept_cons {s : State} {st : Stimulus} {rest : List Stimulus} (h : s.inbox = st :: rest) :
    s.accept = some (select s.context st, { s with inbox := rest }) := by
  simp [State.accept, h]

/-- With nothing pending there is nothing to accept. -/
theorem State.accept_nil {s : State} (h : s.inbox = []) : s.accept = none := by
  simp [State.accept, h]

/-- A step with a stimulus pending runs the row it selects. -/
theorem step_cons {s : State} {st : Stimulus} {rest : List Stimulus} (h : s.inbox = st :: rest) :
    step s = exec (select s.context st) { s with inbox := rest } := by
  simp [step, State.accept_cons h]

@[simp] theorem State.context_cfg (s : State) : s.context.cfg = s.cfg := rfl

@[simp] theorem State.context_halted (s : State) : s.context.halted = s.dev.halted := rfl

@[simp] theorem State.context_online (s : State) : s.context.online = decide (s.dev.state = .online) := rfl

/-! ### Runs -/

@[simp] theorem State.run_zero (s : State) : s.run 0 = .next s := rfl

/-- A longer run whose first step goes on. -/
theorem State.run_succ_next {s t : State} (k : Nat) (h : step s = .next t) : s.run (k + 1) = t.run k := by
  simp only [State.run, State.runSteps, h]

/-- A run whose first step is refused. -/
theorem State.run_succ_refused {s : State} {r : Refusal} (k : Nat) (h : step s = .refused r) :
    s.run (k + 1) = .refused r := by
  simp only [State.run, State.runSteps, h]

/-- A run whose first step faults. -/
theorem State.run_succ_fault {s : State} {r : Fault} (k : Nat) (h : step s = .fault r) : s.run (k + 1) = .fault r := by
  simp only [State.run, State.runSteps, h]

/-- The run is the host's. -/
theorem State.run_eq_core (k : Nat) (s : State) : s.run k = Host.Core.run Sys2Proof.core k s := by
  induction k generalizing s with
  | zero => rfl
  | succ k ih =>
    cases h : step s with
    | next t =>
      have hs : Sys2Proof.core.step s = .next t := h
      rw [State.run_succ_next k h, ih]
      simp only [Host.Core.run, hs]
      rfl
    | fault r =>
      have hs : Sys2Proof.core.step s = .fault r := h
      rw [State.run_succ_fault k h]
      simp only [Host.Core.run, hs]
      rfl
    | refused r =>
      have hs : Sys2Proof.core.step s = .refused r := h
      rw [State.run_succ_refused k h]
      simp only [Host.Core.run, hs]
      rfl

end Sys2Proof.Machine
end

