-- ==== Sys2Proof/Laws/Wire.lean ====
section
/-! SUPPORT. The scalars of a payload and the bytes of the wire (spec/30_encoding.md R46; log 7). -/

namespace Sys2Proof

@[simp] theorem Payload.v8_ofScalars (a8 : Byte) (a16 : Half) (a32 : Word) : (Payload.ofScalars a8 a16 a32).v8 = a8 := rfl

@[simp] theorem halfByte_append (v : Half) : (halfByte v 1 ++ halfByte v 0 : BitVec 16) = v := by
  ext k hk
  simp only [BitVec.getElem_append, halfByte]
  split
  · simp [BitVec.getElem_extractLsb', BitVec.getLsbD_eq_getElem, hk]
  · next h =>
    have h1 : 8 ≤ k := by omega
    simp [BitVec.getElem_extractLsb', h1, BitVec.getLsbD_eq_getElem, hk]

@[simp] theorem wordByte_append (v : Word) :
    (wordByte v 3 ++ wordByte v 2 ++ wordByte v 1 ++ wordByte v 0 : BitVec 32) = v := by
  ext k hk
  simp only [BitVec.getElem_append, wordByte]
  split
  · simp [BitVec.getElem_extractLsb', BitVec.getLsbD_eq_getElem, hk]
  · next h1 =>
    split
    · next h2 =>
      have e : 8 + (k - 8) = k := by omega
      simp [BitVec.getElem_extractLsb', e, BitVec.getLsbD_eq_getElem, hk]
    · next h2 =>
      split
      · next h3 =>
        have e : 16 + (k - 8 - 8) = k := by omega
        simp [BitVec.getElem_extractLsb', e, BitVec.getLsbD_eq_getElem, hk]
      · next h3 =>
        have e : 24 + (k - 8 - 8 - 8) = k := by omega
        simp [BitVec.getElem_extractLsb', e, BitVec.getLsbD_eq_getElem, hk]

@[simp] theorem Payload.v16_ofScalars (a8 : Byte) (a16 : Half) (a32 : Word) :
    (Payload.ofScalars a8 a16 a32).v16 = a16 := halfByte_append a16

@[simp] theorem Payload.v32_ofScalars (a8 : Byte) (a16 : Half) (a32 : Word) :
    (Payload.ofScalars a8 a16 a32).v32 = a32 := wordByte_append a32

/-- Reading the bytes of a 32-bit value gives the value and what follows. -/
@[simp] theorem readWord_wordBytes (w : Word) (rest : List Byte) : readWord (wordBytes w ++ rest) = .ok (w, rest) := by
  simp [wordBytes, readWord]

/-- Reading the bytes of a payload gives the payload and what follows. -/
@[simp] theorem readPayload_payloadBytes (p : Payload) (rest : List Byte) :
    readPayload (payloadBytes p ++ rest) = .ok (p, rest) := rfl

@[simp] theorem readByte_cons (b : Byte) (rest : List Byte) : readByte (b :: rest) = .ok (b, rest) := rfl

end Sys2Proof
end

