-- ==== Sys2Proof/Laws/PerInstr.lean ====
section
/-! SUPPORT. A law stated instruction by instruction: the record of an instruction opens with the number of its port, and the
port is the one that the table's format column gives (log 7). -/

namespace Sys2Proof.Laws

/-- The port number of an instruction's record. -/
def portOf : Instr → Byte
  | .haltedAny => 0x00#8
  | .rxDiscardNat => 0x01#8
  | .rxDiscardFrom _ => 0x01#8
  | .baIdentifyLed => 0x01#8
  | .baIdentifyUnknownExtensions => 0x01#8
  | .baExtensionOffline => 0x01#8
  | .baParkExtension => 0x01#8
  | .baSyncTicks _ => 0x01#8
  | .baOther _ => 0x01#8
  | .btSoftwareUpdateInit _ _ _ => 0x01#8
  | .btRebootAll _ _ => 0x01#8
  | .btSoftwareUpdateVerify _ _ => 0x01#8
  | .btSoftwareUpdatePageCrc _ _ => 0x01#8
  | .btMuteAll => 0x01#8
  | .btOther _ => 0x01#8
  | .ucIdentify => 0x01#8
  | .ucIdentifyLed => 0x01#8
  | .ucAlive => 0x01#8
  | .ucExtensionOffline => 0x01#8
  | .ucParkExtension => 0x01#8
  | .ucLedFlashPosition _ => 0x01#8
  | .ucAliveReply => 0x01#8
  | .ucLinkDiagnosisRequest _ _ _ => 0x01#8
  | .ucMuteAll => 0x01#8
  | .ucOther _ => 0x01#8
  | .fdAny _ => 0x01#8
  | .fwAny _ => 0x01#8
  | .rxUnmatched _ => 0x01#8
  | .tick => 0x00#8
  | .fragRefuseState _ _ _ => 0x02#8
  | .fragRefuseSize _ _ _ => 0x02#8
  | .fragSmall _ _ _ => 0x02#8
  | .fragLarge _ _ _ => 0x02#8
  | .boot _ => 0x03#8
  | .txStartRequest => 0x04#8
  | .txAlive => 0x04#8
  | .txAliveReply => 0x04#8
  | .txLinkDiagnosisReply _ _ _ => 0x04#8
  | .txBcAck => 0x04#8
  | .txBcNak => 0x04#8
  | .txFragmentSmallHeader _ _ _ => 0x04#8
  | .txFragmentSmallData _ _ _ _ _ _ _ => 0x04#8
  | .txFragmentLargeHeader _ _ _ => 0x04#8
  | .txFragmentLargeData _ => 0x04#8

namespace EncodePort

/-- The record of the instruction opens with its port's number, under every configuration. -/
def Statement (i : Instr) : Prop := ∀ cfg : Cfg, (encode cfg i).head? = some (portOf i)

theorem haltedAny : Statement (.haltedAny) := fun _ => rfl

theorem rxDiscardNat : Statement (.rxDiscardNat) := fun _ => rfl

theorem rxDiscardFrom (ident : Ident) : Statement (.rxDiscardFrom ident) := fun _ => rfl

theorem baIdentifyLed : Statement (.baIdentifyLed) := fun _ => rfl

theorem baIdentifyUnknownExtensions : Statement (.baIdentifyUnknownExtensions) := fun _ => rfl

theorem baExtensionOffline : Statement (.baExtensionOffline) := fun _ => rfl

theorem baParkExtension : Statement (.baParkExtension) := fun _ => rfl

theorem baSyncTicks (value : Word) : Statement (.baSyncTicks value) := fun _ => rfl

theorem baOther (cmd : Byte) : Statement (.baOther cmd) := fun _ => rfl

theorem btSoftwareUpdateInit (hw : Byte) (marker : Half) (version : Word) : Statement (.btSoftwareUpdateInit hw marker version) := fun _ => rfl

theorem btRebootAll (marker : Half) (version : Word) : Statement (.btRebootAll marker version) := fun _ => rfl

theorem btSoftwareUpdateVerify (marker : Half) (candidate : Word) : Statement (.btSoftwareUpdateVerify marker candidate) := fun _ => rfl

theorem btSoftwareUpdatePageCrc (page : Half) (crc : Word) : Statement (.btSoftwareUpdatePageCrc page crc) := fun _ => rfl

theorem btMuteAll : Statement (.btMuteAll) := fun _ => rfl

theorem btOther (cmd : Byte) : Statement (.btOther cmd) := fun _ => rfl

theorem ucIdentify : Statement (.ucIdentify) := fun _ => rfl

theorem ucIdentifyLed : Statement (.ucIdentifyLed) := fun _ => rfl

theorem ucAlive : Statement (.ucAlive) := fun _ => rfl

theorem ucExtensionOffline : Statement (.ucExtensionOffline) := fun _ => rfl

theorem ucParkExtension : Statement (.ucParkExtension) := fun _ => rfl

theorem ucLedFlashPosition (offset : Word) : Statement (.ucLedFlashPosition offset) := fun _ => rfl

theorem ucAliveReply : Statement (.ucAliveReply) := fun _ => rfl

theorem ucLinkDiagnosisRequest (rxErr txErr totErr : Word) : Statement (.ucLinkDiagnosisRequest rxErr txErr totErr) := fun _ => rfl

theorem ucMuteAll : Statement (.ucMuteAll) := fun _ => rfl

theorem ucOther (cmd : Byte) : Statement (.ucOther cmd) := fun _ => rfl

theorem fdAny (cmd : Byte) : Statement (.fdAny cmd) := fun _ => rfl

theorem fwAny (f : RxFrame) : Statement (.fwAny f) := fun _ => rfl

theorem rxUnmatched (ident : Ident) : Statement (.rxUnmatched ident) := fun _ => rfl

theorem tick : Statement (.tick) := fun _ => rfl

theorem fragRefuseState (tag : Byte) (byteCount : Word) (buf : List Byte) : Statement (.fragRefuseState tag byteCount buf) := fun _ => rfl

theorem fragRefuseSize (tag : Byte) (byteCount : Word) (buf : List Byte) : Statement (.fragRefuseSize tag byteCount buf) := fun _ => rfl

theorem fragSmall (tag : Byte) (byteCount : Word) (buf : List Byte) : Statement (.fragSmall tag byteCount buf) := fun _ => rfl

theorem fragLarge (tag : Byte) (byteCount : Word) (buf : List Byte) : Statement (.fragLarge tag byteCount buf) := fun _ => rfl

theorem boot (cfg : Cfg) : Statement (.boot cfg) := fun _ => rfl

theorem txStartRequest : Statement (.txStartRequest) := fun _ => rfl

theorem txAlive : Statement (.txAlive) := fun _ => rfl

theorem txAliveReply : Statement (.txAliveReply) := fun _ => rfl

theorem txLinkDiagnosisReply (rxErr : Byte) (txErr : Half) (totErr : Word) : Statement (.txLinkDiagnosisReply rxErr txErr totErr) := fun _ => rfl

theorem txBcAck : Statement (.txBcAck) := fun _ => rfl

theorem txBcNak : Statement (.txBcNak) := fun _ => rfl

theorem txFragmentSmallHeader (tag : Byte) (len : Half) (sum : Half) : Statement (.txFragmentSmallHeader tag len sum) := fun _ => rfl

theorem txFragmentSmallData (index : Byte) (d0 d1 d2 d3 d4 d5 : Byte) : Statement (.txFragmentSmallData index d0 d1 d2 d3 d4 d5) := fun _ => rfl

theorem txFragmentLargeHeader (tag : Byte) (len : Half) (sum : Half) : Statement (.txFragmentLargeHeader tag len sum) := fun _ => rfl

theorem txFragmentLargeData (p : Payload) : Statement (.txFragmentLargeData p) := fun _ => rfl

end EncodePort

end Sys2Proof.Laws
end

