-- ==== Sys2Proof/Certificates/Slice0/Obligations.lean ====
section
/-! DEFINITION. The statements for the provers. Each docstring names the rule of spec/ that it formalises, or says what it rests
on where it is the model's own. -/

open Sys2Proof Sys2Proof.Machine

/-! ### Lifecycle: broadcast-to-all and unicast -/

/-- R86, R92: `BA.identify_LED` switches the indicator off and `UC.identify_LED` switches it on; nothing else changes. -/
def Obligations.IdentifyLedRowsDriveIndicator : Prop :=
  opcodeSelects .ba .identifyLed (fun _ _ => .baIdentifyLed) ∧
  opcodeSelects .uc .identifyLed (fun _ _ => .ucIdentifyLed) ∧
  ∀ s : State, s.dev.halted = false →
    exec .baIdentifyLed s = .next { s with out := s.out ++ [.identifyOff] } ∧
    exec .ucIdentifyLed s = .next { s with out := s.out ++ [.identifyOn] }

/-- R87: unmute; schedule a start unless already identified; no output action; nothing else changes. -/
def Obligations.IdentifyUnknownUnmutesAndSchedules : Prop :=
  opcodeSelects .ba .identifyUnknownExtensions (fun _ _ => .baIdentifyUnknownExtensions) ∧
  ∀ s : State, s.dev.halted = false →
    exec .baIdentifyUnknownExtensions s =
      .next { s with dev := { s.dev with muted := false,
                                         forceStartPending := !s.dev.identified || s.dev.forceStartPending } }

/-- R88, R89, R94, R95, R100: the four rows perform the orphan procedure; nothing else changes. -/
def Obligations.OfflineAndParkRowsOrphan : Prop :=
  opcodeSelects .ba .extensionOffline (fun _ _ => .baExtensionOffline) ∧
  opcodeSelects .ba .parkExtension (fun _ _ => .baParkExtension) ∧
  opcodeSelects .uc .extensionOffline (fun _ _ => .ucExtensionOffline) ∧
  opcodeSelects .uc .parkExtension (fun _ _ => .ucParkExtension) ∧
  ∀ s : State, s.dev.halted = false →
    ∀ i ∈ [Instr.baExtensionOffline, .baParkExtension, .ucExtensionOffline, .ucParkExtension],
      exec i s =
        .next { s with
          dev := { s.dev with muted := false, identified := false,
                              state := if s.cfg.offlineOnPark then .offline else s.dev.state },
          out := s.out ++ [.pulse .orphaned s.cfg.pulseColor.orphaned] }

/-- R90: the value `P[3] .. P[6]`, little-endian, is forwarded unchanged; nothing else changes. -/
def Obligations.SyncTicksForwardsValue : Prop :=
  opcodeSelects .ba .syncTicks (fun f _ => .baSyncTicks (f.p.p6 ++ f.p.p5 ++ f.p.p4 ++ f.p.p3)) ∧
  ∀ (s : State) (v : Word), s.dev.halted = false →
    exec (.baSyncTicks v) s = .next { s with out := s.out ++ [.syncTicks v] }

/-- R91: the four flags and the pulse; nothing else changes. -/
def Obligations.UnicastIdentifySetsFlags : Prop :=
  opcodeSelects .uc .identify (fun _ _ => .ucIdentify) ∧
  ∀ s : State, s.dev.halted = false →
    exec .ucIdentify s =
      .next { s with
        dev := { s.dev with identified := true, muted := false, forceStartPending := true, firmwareUpdateActive := false },
        out := s.out ++ [.pulse .identify s.cfg.pulseColor.identify] }

/-- R93: the reply, then the pulse, whatever the state and the flags; nothing else changes. -/
def Obligations.AliveRequestDrawsReply : Prop :=
  opcodeSelects .uc .alive (fun _ _ => .ucAlive) ∧
  ∀ s : State, s.dev.halted = false →
    exec .ucAlive s =
      .next { s with out := s.out ++ [.tx (ownFrame s.cfg s.cfg.cc.aliveReply (heartbeatBytes s.cfg)),
                                      .pulse .alive s.cfg.pulseColor.alive] }

/-- R96: Online, and the 32-bit offset applied; nothing else changes. -/
def Obligations.LedFlashPositionGoesOnline : Prop :=
  opcodeSelects .uc .ledFlashPosition (fun f _ => .ucLedFlashPosition (f.p.p6 ++ f.p.p5 ++ f.p.p4 ++ f.p.p3)) ∧
  ∀ (s : State) (v : Word), s.dev.halted = false →
    exec (.ucLedFlashPosition v) s =
      .next { s with dev := { s.dev with state := .online }, out := s.out ++ [.setSyncOffset v] }

/-- R97: an indicator pulse only. -/
def Obligations.AliveReplyOnlyPulses : Prop :=
  opcodeSelects .uc .aliveReply (fun _ _ => .ucAliveReply) ∧
  ∀ s : State, s.dev.halted = false →
    exec .ucAliveReply s = .next { s with out := s.out ++ [.pulse .aliveReply s.cfg.pulseColor.aliveReply] }

/-- R98, R52: the reply carries `rxErr[7:0]`, `txErr[15:0]` and `totErr`, whatever the three samples are; nothing else changes. -/
def Obligations.LinkDiagnosisReportsCounters : Prop :=
  opcodeSelects .uc .linkDiagnosisRequest (fun _ e => .ucLinkDiagnosisRequest e.rxErr e.txErr e.totErr) ∧
  ∀ (s : State) (r t e : Word), s.dev.halted = false →
    exec (.ucLinkDiagnosisRequest r t e) s =
      .next { s with out := s.out ++ [.tx (ownFrame s.cfg s.cfg.cc.linkDiagnosisReply
        { p0 := r.extractLsb' 0 8, p1 := t.extractLsb' 0 8, p2 := t.extractLsb' 8 8, p3 := e.extractLsb' 0 8,
          p4 := e.extractLsb' 8 8, p5 := e.extractLsb' 16 8, p6 := e.extractLsb' 24 8 })] }

/-- R99, R145: both rows set `muted`; the unicast one pulses and the broadcast one does not; nothing else changes. -/
def Obligations.MuteAllRowsSetMuted : Prop :=
  opcodeSelects .uc .muteAll (fun _ _ => .ucMuteAll) ∧
  opcodeSelects .bt .muteAll (fun _ _ => .btMuteAll) ∧
  ∀ s : State, s.dev.halted = false →
    exec .ucMuteAll s =
      .next { s with dev := { s.dev with muted := true }, out := s.out ++ [.pulse .mute s.cfg.pulseColor.mute] } ∧
    exec .btMuteAll s = .next { s with dev := { s.dev with muted := true } }

/-! ### Firmware handshake: broadcast-to-type -/

/-- R141, R53: cleared first; for hardware at most the device's, accepted on the marker or a differing version with ACK, otherwise
NAK; for newer hardware no reply; nothing else changes. -/
def Obligations.SoftwareUpdateInitDecides : Prop :=
  opcodeSelects .bt .softwareUpdateInit
    (fun f _ => .btSoftwareUpdateInit f.p.p0 (f.p.p2 ++ f.p.p1) (f.p.p6 ++ f.p.p5 ++ f.p.p4 ++ f.p.p3)) ∧
  ∀ (s : State) (hw : Byte) (m : Half) (v : Word), s.dev.halted = false →
    (hw.toNat ≤ s.cfg.hwVersion.toNat → m = 0xDEAD#16 ∨ v ≠ s.cfg.fwVersion →
      exec (.btSoftwareUpdateInit hw m v) s =
        .next { s with dev := { s.dev with firmwareUpdateActive := true },
                       out := s.out ++ [.tx (ownFrame s.cfg s.cfg.cc.bcAck ⟨0, 0, 0, 0, 0, 0, 0⟩)] }) ∧
    (hw.toNat ≤ s.cfg.hwVersion.toNat → m ≠ 0xDEAD#16 → v = s.cfg.fwVersion →
      exec (.btSoftwareUpdateInit hw m v) s =
        .next { s with dev := { s.dev with firmwareUpdateActive := false },
                       out := s.out ++ [.tx (ownFrame s.cfg s.cfg.cc.bcNak ⟨0, 0, 0, 0, 0, 0, 0⟩)] }) ∧
    (s.cfg.hwVersion.toNat < hw.toNat →
      exec (.btSoftwareUpdateInit hw m v) s = .next { s with dev := { s.dev with firmwareUpdateActive := false } })

/-- R142: unmute and clear; on the marker or a differing version, `RESET` and halted; nothing else changes. -/
def Obligations.RebootAllClearsAndMayReset : Prop :=
  opcodeSelects .bt .rebootAll
    (fun f _ => .btRebootAll (f.p.p2 ++ f.p.p1) (f.p.p6 ++ f.p.p5 ++ f.p.p4 ++ f.p.p3)) ∧
  ∀ (s : State) (m : Half) (v : Word), s.dev.halted = false →
    (m = 0xDEAD#16 ∨ v ≠ s.cfg.fwVersion →
      exec (.btRebootAll m v) s =
        .next { s with dev := { s.dev with muted := false, firmwareUpdateActive := false, halted := true },
                       out := s.out ++ [.reset] }) ∧
    (m ≠ 0xDEAD#16 → v = s.cfg.fwVersion →
      exec (.btRebootAll m v) s =
        .next { s with dev := { s.dev with muted := false, firmwareUpdateActive := false } })

/-- R143: while an update is active the candidate is recorded and the hook is called with its eligibility; otherwise nothing
happens; nothing else changes. -/
def Obligations.VerifyRecordsCandidate : Prop :=
  opcodeSelects .bt .softwareUpdateVerify
    (fun f _ => .btSoftwareUpdateVerify (f.p.p2 ++ f.p.p1) (f.p.p6 ++ f.p.p5 ++ f.p.p4 ++ f.p.p3)) ∧
  ∀ (s : State) (m : Half) (v : Word), s.dev.halted = false →
    (s.dev.firmwareUpdateActive = true →
      exec (.btSoftwareUpdateVerify m v) s =
        .next { s with dev := { s.dev with firmwareNewVersion := { bits := v, written := true } },
                       out := s.out ++ [.fwVerify v (decide (m = 0xDEAD#16 ∨ v ≠ s.cfg.fwVersion))] }) ∧
    (s.dev.firmwareUpdateActive = false → exec (.btSoftwareUpdateVerify m v) s = .next s)

/-- R144, R34: while an update is active, an index below `CRC_CAP` stores the entry, whole, and every other entry reads as
before; an index at or above `CRC_CAP`, or no active update, changes nothing anywhere. -/
def Obligations.PageCrcBoundedStore : Prop :=
  opcodeSelects .bt .softwareUpdatePageCrc
    (fun f _ => .btSoftwareUpdatePageCrc (f.p.p2 ++ f.p.p1) (f.p.p6 ++ f.p.p5 ++ f.p.p4 ++ f.p.p3)) ∧
  ∀ (s : State) (page : Half) (v : Word), s.dev.halted = false →
    (s.dev.firmwareUpdateActive = true → page.toNat < s.cfg.crcCap →
      ∃ m : Memory,
        exec (.btSoftwareUpdatePageCrc page v) s = .next { s with dev := { s.dev with crc := m } } ∧
        m.read page.toNat = some v ∧
        (∀ k, k ≠ page.toNat → m.read k = s.dev.crc.read k) ∧
        (Memory.wf s.dev.crc → Memory.wf m)) ∧
    (s.dev.firmwareUpdateActive = false ∨ s.cfg.crcCap ≤ page.toNat →
      exec (.btSoftwareUpdatePageCrc page v) s = .next s)

/-! ### Dispatcher -/

/-- R23, R71, R74, R75, R77: the ignored rows complete, and change nothing at all. -/
def Obligations.IgnoredRowsChangeNothing : Prop :=
  ∀ (s : State) (ident : Ident) (cmd : Byte),
    exec .haltedAny s = .next s ∧ exec .rxDiscardNat s = .next s ∧ exec (.rxDiscardFrom ident) s = .next s ∧
    exec (.baOther cmd) s = .next s ∧ exec (.btOther cmd) s = .next s ∧ exec (.ucOther cmd) s = .next s ∧
    exec (.fdAny cmd) s = .next s ∧ exec (.rxUnmatched ident) s = .next s

/-- R71: on a running block a NAT artifact, and a from-device frame with a non-zero identifier, are discarded before
classification and change nothing; no other frame is discarded. -/
def Obligations.DiscardPrecedesClassification : Prop :=
  (∀ (ctx : Context) (f : RxFrame) (e : ErrCounts), ctx.halted = false →
    (f.isNat = true → select ctx (.rx f e) = .rxDiscardNat) ∧
    (f.isNat = false → f.ident ≠ 0#29 → f.dir = .fromDevice → select ctx (.rx f e) = .rxDiscardFrom f.ident) ∧
    (f.isNat = false → f.ident = 0#29 ∨ f.dir = .toDevice →
      select ctx (.rx f e) ≠ .rxDiscardNat ∧ ∀ x, select ctx (.rx f e) ≠ .rxDiscardFrom x)) ∧
  ∀ (s : State) (x : Ident), exec .rxDiscardNat s = .next s ∧ exec (.rxDiscardFrom x) s = .next s

/-- R79: comparing whole 32-bit values and comparing extracted address fields classify every identifier alike, and form by
form. -/
def Obligations.FieldExtractionClassifiesAlike : Prop :=
  ∀ (cfg : Cfg) (ident : Ident),
    classify cfg ident = classifyByFields cfg ident ∧
    (ident.setWidth 32 = 0#32 ↔ ident = 0#29) ∧
    (ident.setWidth 32 = cfg.deviceType.setWidth 32 <<< 24 ↔
      ident.extractLsb' 24 5 = cfg.deviceType.extractLsb' 0 5 ∧ ident.extractLsb' 0 24 = 0#24 ∧
        cfg.deviceType.extractLsb' 5 3 = 0#3) ∧
    (ident.setWidth 32 = cfg.serial ||| 0x10000000#32 ↔
      ident.extractLsb' 28 1 = 1#1 ∧ ident.extractLsb' 0 28 = cfg.serial.extractLsb' 0 28 ∧
        cfg.serial.extractLsb' 29 3 = 0#3) ∧
    (ident.setWidth 32 = cfg.serial ↔
      ident = cfg.serial.extractLsb' 0 29 ∧ cfg.serial.extractLsb' 29 3 = 0#3) ∧
    (ident.setWidth 32 &&& 0x1FFF0000#32 = (cfg.deviceType.setWidth 32 <<< 16) ||| 0x1F000000#32 ↔
      ident.extractLsb' 28 1 = 1#1 ∧ ident.extractLsb' 24 4 = 0xF#4 ∧ ident.extractLsb' 16 8 = cfg.deviceType)

/-- R60: in each category with a handler that lists opcodes, every other command, up to all 256, selects the default arm, which
changes nothing and emits nothing. -/
def Obligations.UnlistedOpcodesDoNothing : Prop :=
  (∀ (ctx : Context) (f : RxFrame) (e : ErrCounts), ctx.halted = false → discards f = false →
    (classify ctx.cfg f.ident = some .ba → (∀ n ∈ baNames, f.cmd ≠ ctx.cfg.cc.code n) →
      select ctx (.rx f e) = .baOther f.cmd) ∧
    (classify ctx.cfg f.ident = some .bt → (∀ n ∈ btNames, f.cmd ≠ ctx.cfg.cc.code n) →
      select ctx (.rx f e) = .btOther f.cmd) ∧
    (classify ctx.cfg f.ident = some .uc → (∀ n ∈ ucNames, f.cmd ≠ ctx.cfg.cc.code n) →
      select ctx (.rx f e) = .ucOther f.cmd)) ∧
  ∀ (s : State) (c : Byte),
    exec (.baOther c) s = .next s ∧ exec (.btOther c) s = .next s ∧ exec (.ucOther c) s = .next s

/-- R75, R76: category FD is ignored whatever the command; category FW hands the whole frame on and changes nothing else. -/
def Obligations.FromDeviceIgnoredFirmwareRouted : Prop :=
  (∀ (ctx : Context) (f : RxFrame) (e : ErrCounts), ctx.halted = false → discards f = false →
    (classify ctx.cfg f.ident = some .fd → select ctx (.rx f e) = .fdAny f.cmd) ∧
    (classify ctx.cfg f.ident = some .fw → select ctx (.rx f e) = .fwAny f)) ∧
  ∀ (s : State) (c : Byte) (f : RxFrame), s.dev.halted = false →
    exec (.fdAny c) s = .next s ∧ exec (.fwAny f) s = .next { s with out := s.out ++ [.routeFw f] }

/-- R77, R80: the step that accepts a frame whose identifier matches none of the five forms, compared as R49 writes them, leaves
the Device record as it was and emits nothing; so does the step for a discarded frame, a from-device frame and an unknown opcode;
for a firmware-broadcast frame the only action is the hand-over. -/
def Obligations.ForeignFramesLeaveNoTrace : Prop :=
  ∀ (s : State) (f : RxFrame) (e : ErrCounts) (rest : List Stimulus), s.dev.halted = false → s.inbox = .rx f e :: rest →
    ((f.ident.setWidth 32 ≠ 0#32 ∧ f.ident.setWidth 32 ≠ s.cfg.deviceType.setWidth 32 <<< 24 ∧
        f.ident.setWidth 32 ≠ s.cfg.serial ||| 0x10000000#32 ∧ f.ident.setWidth 32 ≠ s.cfg.serial ∧
        f.ident.setWidth 32 &&& 0x1FFF0000#32 ≠ (s.cfg.deviceType.setWidth 32 <<< 16) ||| 0x1F000000#32) →
      step s = .next { s with inbox := rest }) ∧
    (f.isNat = true ∨ (f.ident ≠ 0#29 ∧ f.dir = .fromDevice) → step s = .next { s with inbox := rest }) ∧
    (classify s.cfg f.ident = some .fd → step s = .next { s with inbox := rest }) ∧
    (classify s.cfg f.ident = some .ba → (∀ n ∈ baNames, f.cmd ≠ s.cfg.cc.code n) →
      step s = .next { s with inbox := rest }) ∧
    (classify s.cfg f.ident = some .bt → (∀ n ∈ btNames, f.cmd ≠ s.cfg.cc.code n) →
      step s = .next { s with inbox := rest }) ∧
    (classify s.cfg f.ident = some .uc → (∀ n ∈ ucNames, f.cmd ≠ s.cfg.cc.code n) →
      step s = .next { s with inbox := rest }) ∧
    (classify s.cfg f.ident = some .fw → f.isNat = false → f.dir = .toDevice →
      step s = .next { s with inbox := rest, out := s.out ++ [.routeFw f] })

/-- R78: what is not to be looked at is not looked at. Classification depends on the identifier, `SERIAL` and `DEVICE_TYPE`
alone, the discard on `ident`, `dir` and `is_nat` alone; the command direction, and the flags and the countdown of two states with
one configuration, make no difference to the row selected (the firmware row apart, which carries the frame itself). -/
def Obligations.DispatchReadsNoMore : Prop :=
  (∀ (cfg cfg' : Cfg) (ident : Ident), cfg.serial = cfg'.serial → cfg.deviceType = cfg'.deviceType →
    classify cfg ident = classify cfg' ident) ∧
  (∀ f f' : RxFrame, f.ident = f'.ident → f.dir = f'.dir → f.isNat = f'.isNat → discards f = discards f') ∧
  (∀ (s s' : State) (f : RxFrame) (e : ErrCounts) (d : BitVec 1), s.cfg = s'.cfg → s.dev.halted = s'.dev.halted →
    classify s.cfg f.ident ≠ some .fw →
    select s.context (.rx f e) = select s'.context (.rx { f with cmddir := d } e))

/-! ### Liveness timer -/

/-- R112: the whole rule, in its three cases, on a countdown that something has written; a halted block does nothing; a tick is
selected by its port alone. -/
def Obligations.TickFollowsItsThreeSteps : Prop :=
  (∀ ctx : Context, ctx.halted = false → select ctx .tick = .tick) ∧
  ∀ s : State,
    (s.dev.halted = true → exec .tick s = .next s) ∧
    (s.dev.halted = false → s.dev.forceStartPending = true →
      exec .tick s =
        .next { s with
          dev := { s.dev with forceStartPending := false,
                              countdown := { bits := BitVec.ofNat 32 (rearmInterval s.cfg) - 10#32, written := true } },
          out := s.out ++ [.tx (ownFrame s.cfg s.cfg.cc.startRequest (heartbeatBytes s.cfg))] }) ∧
    (s.dev.halted = false → s.dev.forceStartPending = false → s.dev.countdown.written = true →
      s.dev.countdown.bits.toInt ≤ 0 →
      exec .tick s =
        .next { s with
          dev := { s.dev with
            countdown := { bits := BitVec.ofNat 32 (rearmInterval s.cfg) - 10#32, written := true } },
          out := s.out ++ [.tx (ownFrame s.cfg s.cfg.cc.alive (heartbeatBytes s.cfg))] }) ∧
    (s.dev.halted = false → s.dev.forceStartPending = false → s.dev.countdown.written = true →
      0 < s.dev.countdown.bits.toInt →
      exec .tick s =
        .next { s with dev := { s.dev with countdown := { bits := s.dev.countdown.bits - 10#32, written := true } } })

/-- The model's choice (log 5), in a case that no run reaches (R117): a tick that reads a countdown nothing has written does what
it would do with the free value in its place, and counts one draw. -/
def Obligations.UnwrittenCountdownReadsFree : Prop :=
  ∀ s : State, s.dev.halted = false → s.dev.forceStartPending = false → s.dev.countdown.written = false →
    exec .tick s =
      exec .tick { s with dev := { s.dev with countdown := { bits := Config.unwrittenCountdown s.draws, written := true } },
                          draws := s.draws + 1 } ∧
    ∃ t, exec .tick s = .next t ∧ t.draws = s.draws + 1 ∧ t.dev.countdown.written = true

/-- R111: `N` is `1000 * (j + 360)` for `j` the low six bits of `SERIAL`; all 64 values of `j` occur; each `N` is a multiple of
10 from 360000 to 423000. -/
def Obligations.RearmIntervalRange : Prop :=
  (∀ cfg : Cfg, ∃ j < 64, j = cfg.serial.toNat % 64 ∧ rearmInterval cfg = 1000 * (j + 360) ∧
    360000 ≤ rearmInterval cfg ∧ rearmInterval cfg ≤ 423000 ∧ rearmInterval cfg % 10 = 0) ∧
  ∀ (cfg : Cfg) (j : Nat), j < 64 → ∃ serial : Word, rearmInterval { cfg with serial := serial } = 1000 * (j + 360)

/-- R116: when a tick sends a heartbeat, and no start is pending and the block is not halted after it or after any of the stimuli
`l` accepted next, of which `N / 10 - 1` are ticks, then no tick among them sends anything, and the next tick, the one that comes
exactly `N / 10` ticks after the heartbeat, sends exactly one `alive` and re-arms alike. -/
def Obligations.HeartbeatPeriod : Prop :=
  ∀ (s t₁ : State) (f : OutFrame) (l rest : List Stimulus),
    s.inbox = .tick :: (l ++ .tick :: rest) → s.run 1 = .next t₁ → t₁.out = s.out ++ [.tx f] →
    (∀ k, 1 ≤ k → k ≤ l.length + 1 →
      ∃ t : State, s.run k = .next t ∧ t.dev.forceStartPending = false ∧ t.dev.halted = false) →
    tickCount l = rearmInterval s.cfg / 10 - 1 →
    (∀ (j : Nat) (t t' : State), l[j]? = some .tick → s.run (j + 1) = .next t → s.run (j + 2) = .next t' → t'.out = t.out) ∧
    ∃ t : State, s.run (l.length + 1) = .next t ∧
      s.run (l.length + 2) =
        .next { t with
          inbox := rest,
          dev := { t.dev with countdown := Reg32.holding (BitVec.ofNat 32 (rearmInterval s.cfg - 10)) },
          out := t.out ++ [.tx (ownFrame s.cfg s.cfg.cc.alive (heartbeatBytes s.cfg))] }

/-- R114: two running states that agree in the configuration, the pending start and the countdown send the same on a tick and are
left with the same countdown, whatever their state, their other flags and their registers. -/
def Obligations.TimerConsultsNothingElse : Prop :=
  ∀ s s' : State, s.dev.halted = false → s'.dev.halted = false → s.cfg = s'.cfg → s.draws = s'.draws →
    s.dev.forceStartPending = s'.dev.forceStartPending → s.dev.countdown = s'.dev.countdown →
    ∃ (as : List Action) (cd : Reg32) (n : Nat),
      exec .tick s = .next { s with dev := { s.dev with forceStartPending := false, countdown := cd },
                                    out := s.out ++ as, draws := n } ∧
      exec .tick s' = .next { s' with dev := { s'.dev with forceStartPending := false, countdown := cd },
                                      out := s'.out ++ as, draws := n }

/-! ### Fragmentation engine -/

/-- R120, R121, R122, R124: the gate, the size and the tier select the row; the two refusals send nothing and change nothing. That this
holds also of a request whose buffer is shorter than `byteCount`, where the gate or the size ends the step before any byte is read,
is the model's inference (log 11, DEDUCED). -/
def Obligations.FragmentationRequestRouting : Prop :=
  (∀ (ctx : Context) (tag : Byte) (n : Word) (buf : List Byte), ctx.halted = false →
    (ctx.online = false → tag ≠ ctx.cfg.tagExtPageCrc → select ctx (.frag tag n buf) = .fragRefuseState tag n buf) ∧
    (ctx.online = true ∨ tag = ctx.cfg.tagExtPageCrc →
      (65536 ≤ n.toNat → select ctx (.frag tag n buf) = .fragRefuseSize tag n buf) ∧
      (n.toNat ≤ 1530 → select ctx (.frag tag n buf) = .fragSmall tag n buf) ∧
      (1531 ≤ n.toNat → n.toNat ≤ 65535 → select ctx (.frag tag n buf) = .fragLarge tag n buf))) ∧
  ∀ (s : State) (tag : Byte) (n : Word) (buf : List Byte),
    exec (.fragRefuseState tag n buf) s = .next s ∧ exec (.fragRefuseSize tag n buf) s = .next s

/-- R125 (with R54, R55): the frames of a small transfer, byte by byte and in order; nothing else changes. -/
def Obligations.SmallTransferFrames : Prop :=
  ∀ (s : State) (tag : Byte) (n : Word) (buf : List Byte), s.dev.halted = false →
    s.dev.state = .online ∨ tag = s.cfg.tagExtPageCrc → n.toNat ≤ 1530 → n.toNat ≤ buf.length →
    ∃ data : List OutFrame,
      exec (.fragSmall tag n buf) s =
        .next { s with out := s.out ++
          (ownFrame s.cfg s.cfg.cc.fragmentedPackage
            (headerBytes tag (n.extractLsb' 0 16) (checksum buf n.toNat)) :: data).map .tx } ∧
      data.length = (n.toNat + 5) / 6 ∧
      ∀ i, 1 ≤ i → i ≤ data.length →
        ∀ b : Nat → Byte,
          (∀ j, b j = if j < min 6 (n.toNat - 6 * (i - 1)) then buf.getD (6 * (i - 1) + j) 0#8 else s.cfg.pad) →
          data[i - 1]? = some (ownFrame s.cfg s.cfg.cc.fragmentedPackage
            { p0 := BitVec.ofNat 8 i, p1 := b 0, p2 := b 1, p3 := b 2, p4 := b 3, p5 := b 4, p6 := b 5 })

/-- R126 (with R56, R57): the frames of a large transfer, byte by byte and in order; nothing else changes. -/
def Obligations.LargeTransferFrames : Prop :=
  ∀ (s : State) (tag : Byte) (n : Word) (buf : List Byte), s.dev.halted = false →
    s.dev.state = .online ∨ tag = s.cfg.tagExtPageCrc → 1531 ≤ n.toNat → n.toNat ≤ 65535 → n.toNat ≤ buf.length →
    ∃ data : List OutFrame,
      exec (.fragLarge tag n buf) s =
        .next { s with out := s.out ++
          (ownFrame s.cfg s.cfg.cc.fragmentedLargeHeader
            (headerBytes tag (n.extractLsb' 0 16) (checksum buf n.toNat)) :: data).map .tx } ∧
      data.length = (n.toNat + 6) / 7 ∧
      ∀ i, 1 ≤ i → i ≤ data.length →
        ∀ b : Nat → Byte,
          (∀ j, b j = if j < min 7 (n.toNat - 7 * (i - 1)) then buf.getD (7 * (i - 1) + j) 0#8 else s.cfg.pad) →
          data[i - 1]? = some (ownFrame s.cfg s.cfg.cc.fragmentedLargeData
            { p0 := b 0, p1 := b 1, p2 := b 2, p3 := b 3, p4 := b 4, p5 := b 5, p6 := b 6 })

/-- R127: the step that accepts a request which the gate lets through emits `1 + ceil(L/6)` frames in the small tier,
`1 + ceil(L/7)` in the large tier, and none for 65536 bytes or more. -/
def Obligations.FragmentCounts : Prop :=
  ∀ (s : State) (tag : Byte) (n : Word) (buf : List Byte) (rest : List Stimulus), s.dev.halted = false →
    s.inbox = .frag tag n buf :: rest → s.dev.state = .online ∨ tag = s.cfg.tagExtPageCrc → n.toNat ≤ buf.length →
    ∃ fs : List OutFrame, step s = .next { s with inbox := rest, out := s.out ++ fs.map .tx } ∧
      fs.length =
        if n.toNat ≤ 1530 then 1 + (n.toNat + 5) / 6
        else if n.toNat ≤ 65535 then 1 + (n.toNat + 6) / 7
        else 0

/-- R123: the checksum is the sum of the first `L` bytes as naturals modulo `2^16`. -/
def Obligations.ChecksumIsByteSum : Prop :=
  ∀ (buf : List Byte) (n : Nat), (checksum buf n).toNat = ((buf.take n).map BitVec.toNat).sum % 65536

/-- R131: a receiver recovers the tag and the buffer of every small transfer, and finds it intact. What it does with any other list
of frames (log 23) is no part of the statement. -/
def Obligations.SmallTransferReassembles : Prop :=
  ∀ (s : State) (tag : Byte) (n : Word) (buf : List Byte), s.dev.halted = false →
    s.dev.state = .online ∨ tag = s.cfg.tagExtPageCrc → n.toNat ≤ 1530 → n.toNat ≤ buf.length →
    ∃ fs : List OutFrame,
      exec (.fragSmall tag n buf) s = .next { s with out := s.out ++ fs.map .tx } ∧
      receiveSmall s.cfg.cc fs = some (tag, buf.take n.toNat)

/-- R132: a receiver that gets the frames in order recovers the tag and the buffer of every large transfer, and finds it
intact. What it does with any other list of frames (log 23) is no part of the statement. -/
def Obligations.LargeTransferReassembles : Prop :=
  ∀ (s : State) (tag : Byte) (n : Word) (buf : List Byte), s.dev.halted = false →
    s.dev.state = .online ∨ tag = s.cfg.tagExtPageCrc → 1531 ≤ n.toNat → n.toNat ≤ 65535 → n.toNat ≤ buf.length →
    ∃ fs : List OutFrame,
      exec (.fragLarge tag n buf) s = .next { s with out := s.out ++ fs.map .tx } ∧
      receiveLarge s.cfg.cc fs = some (tag, buf.take n.toNat)

/-- R133, its first half: with `PAD = 0` a receiver that sums every data byte of every data fragment, the pad bytes too, finds the
header's checksum, in both tiers. -/
def Obligations.ZeroPadKeepsSum : Prop :=
  ∀ (cfg : Cfg) (tag : Byte) (buf : List Byte) (n : Nat), cfg.pad = 0#8 → n ≤ buf.length →
    (n ≤ 1530 → byteSum ((smallFrames cfg tag n buf).tail.flatMap smallBytes) = (checksum buf n).toNat) ∧
    (n ≤ 65535 → byteSum ((largeFrames cfg tag n buf).tail.flatMap largeBytes) = (checksum buf n).toNat)

/-- R130: a fragmentation row writes no Device field, and two equal requests in states with the same configuration, `DEV.state`
and `DEV.halted` send equal frames. -/
def Obligations.FragmentationIsStateless : Prop :=
  ∀ (i : Instr) (tag : Byte) (n : Word) (buf : List Byte),
    i ∈ [Instr.fragRefuseState tag n buf, .fragRefuseSize tag n buf, .fragSmall tag n buf, .fragLarge tag n buf] →
    (∀ s t : State, exec i s = .next t → ∃ as, t = { s with out := s.out ++ as }) ∧
    (∀ (s s' t : State) (as : List Action), s.cfg = s'.cfg → s.dev.state = s'.dev.state → s.dev.halted = s'.dev.halted →
      exec i s = .next t → t.out = s.out ++ as → exec i s' = .next { s' with out := s'.out ++ as })

/-- R33 with D27: a transfer that the gate lets through and whose buffer holds fewer than `byteCount` bytes is refused, by name. -/
def Obligations.ShortBufferRefused : Prop :=
  ∀ (s : State) (tag : Byte) (n : Word) (buf : List Byte), s.dev.halted = false →
    s.dev.state = .online ∨ tag = s.cfg.tagExtPageCrc → buf.length < n.toNat →
    exec (.fragSmall tag n buf) s = .refused .shortBuffer ∧ exec (.fragLarge tag n buf) s = .refused .shortBuffer

/-- R33: no byte at or above `byteCount` is read: two buffers that agree below it give the same frames. -/
def Obligations.OnlyRequestedBytesRead : Prop :=
  ∀ (s : State) (tag : Byte) (n : Word) (buf buf' : List Byte), n.toNat ≤ buf.length → n.toNat ≤ buf'.length →
    buf.take n.toNat = buf'.take n.toNat →
    exec (.fragSmall tag n buf) s = exec (.fragSmall tag n buf') s ∧
    exec (.fragLarge tag n buf) s = exec (.fragLarge tag n buf') s

/-! ### Outbound formats -/

/-- R51: the three heartbeats carry the hardware version in `P[0]`, zeros, and the firmware version little-endian; nothing but the
hand-over happens. That running such a row hands its frame to `send` is the model's choice (log 9): by R65 it is a format, and a
step sends it as part of a tick or of `UC.alive`. -/
def Obligations.HeartbeatFormats : Prop :=
  ∀ s : State, s.dev.halted = false →
    exec .txStartRequest s =
      .next { s with out := s.out ++ [.tx (ownFrame s.cfg s.cfg.cc.startRequest (heartbeatBytes s.cfg))] } ∧
    exec .txAlive s = .next { s with out := s.out ++ [.tx (ownFrame s.cfg s.cfg.cc.alive (heartbeatBytes s.cfg))] } ∧
    exec .txAliveReply s =
      .next { s with out := s.out ++ [.tx (ownFrame s.cfg s.cfg.cc.aliveReply (heartbeatBytes s.cfg))] }

/-- R52, R53: the bytes of the diagnosis reply, its three scalars already narrowed, and of ACK and NAK; nothing but the hand-over
happens. That running such a row hands its frame to `send` is the model's choice (log 9): by R65 it is a format. -/
def Obligations.ReplyFormats : Prop :=
  ∀ (s : State) (r : Byte) (t : Half) (e : Word), s.dev.halted = false →
    exec (.txLinkDiagnosisReply r t e) s =
      .next { s with out := s.out ++ [.tx (ownFrame s.cfg s.cfg.cc.linkDiagnosisReply
        { p0 := r, p1 := t.extractLsb' 0 8, p2 := t.extractLsb' 8 8, p3 := e.extractLsb' 0 8, p4 := e.extractLsb' 8 8,
          p5 := e.extractLsb' 16 8, p6 := e.extractLsb' 24 8 })] } ∧
    exec .txBcAck s = .next { s with out := s.out ++ [.tx (ownFrame s.cfg s.cfg.cc.bcAck ⟨0, 0, 0, 0, 0, 0, 0⟩)] } ∧
    exec .txBcNak s = .next { s with out := s.out ++ [.tx (ownFrame s.cfg s.cfg.cc.bcNak ⟨0, 0, 0, 0, 0, 0, 0⟩)] }

/-- R54 to R57: the command and the place of every byte of the four fragment formats; nothing but the hand-over happens. That
running such a row hands its frame to `send` is the model's choice (log 9): by R65 it is a format, and a step sends it as part of a
transfer. -/
def Obligations.FragmentFormats : Prop :=
  ∀ (s : State) (tag idx d0 d1 d2 d3 d4 d5 : Byte) (len sum : Half) (p : Payload), s.dev.halted = false →
    exec (.txFragmentSmallHeader tag len sum) s =
      .next { s with out := s.out ++ [.tx (ownFrame s.cfg s.cfg.cc.fragmentedPackage (headerBytes tag len sum))] } ∧
    exec (.txFragmentSmallData idx d0 d1 d2 d3 d4 d5) s =
      .next { s with out := s.out ++ [.tx (ownFrame s.cfg s.cfg.cc.fragmentedPackage ⟨idx, d0, d1, d2, d3, d4, d5⟩)] } ∧
    exec (.txFragmentLargeHeader tag len sum) s =
      .next { s with out := s.out ++ [.tx (ownFrame s.cfg s.cfg.cc.fragmentedLargeHeader (headerBytes tag len sum))] } ∧
    exec (.txFragmentLargeData p) s =
      .next { s with out := s.out ++ [.tx (ownFrame s.cfg s.cfg.cc.fragmentedLargeData p)] }

/-- R50: whatever the instruction, what a step does to the output is to append to it, and every frame appended has
`ident = SERIAL[28:0]`, is from-device, and has `cmddir = TX_CMDDIR`. -/
def Obligations.EveryFrameSentIsOwn : Prop :=
  ∀ (i : Instr) (s t : State), exec i s = .next t →
    ∃ as : List Action, t.out = s.out ++ as ∧
      ∀ f, Action.tx f ∈ as → f.ident = s.cfg.serial.extractLsb' 0 29 ∧ f.dir = .fromDevice ∧ f.cmddir = s.cfg.txCmddir

/-! ### Reset, boot and halt -/

/-- R180, R29: `BOOT` is selected in every context, halted or not, and re-creates the whole record with no output action;
`SERIAL`, `DEVICE_TYPE` and `HW_VERSION` stay the same at every boot, and `FW_VERSION` is the one supplied at this boot; a boot that
supplies the module's own parameters leaves exactly the configuration supplied; a collaborator's read of the new version or of any
CRC entry then finds no value. -/
def Obligations.BootRecreatesRecord : Prop :=
  (∀ (ctx : Context) (cfg : Cfg), select ctx (.boot cfg) = .boot cfg) ∧
  ∀ (s : State) (cfg : Cfg),
    ∃ t : State, exec (.boot cfg) s = .next t ∧
      t.dev.state = .offline ∧ t.dev.muted = false ∧ t.dev.identified = false ∧ t.dev.forceStartPending = true ∧
      t.dev.firmwareUpdateActive = false ∧ t.dev.countdown.written = false ∧ t.dev.firmwareNewVersion.written = false ∧
      (∀ i, t.dev.crc.read i = none) ∧ t.dev.halted = false ∧
      t.cfg.serial = s.cfg.serial ∧ t.cfg.deviceType = s.cfg.deviceType ∧ t.cfg.hwVersion = s.cfg.hwVersion ∧
      t.cfg.fwVersion = cfg.fwVersion ∧ (cfg = { s.cfg with fwVersion := cfg.fwVersion } → t.cfg = cfg) ∧
      t.inbox = s.inbox ∧ t.out = s.out ∧ t.draws = s.draws ∧
      t.readNewVersion = .error .unwrittenRead ∧ ∀ i < t.cfg.crcCap, t.readCrcEntry i = .error .unwrittenRead

/-- R29, the values after boot, in the state right after reset; that its configuration is TC0 is the model's choice (log 2). -/
def Obligations.ResetStateIsBootRecord : Prop :=
  State.reset.status = { state := .offline, muted := false, identified := false, forceStartPending := true,
                         firmwareUpdateActive := false, halted := false } ∧
  State.reset.dev.countdown.written = false ∧ State.reset.readNewVersion = .error .unwrittenRead ∧
  (∀ i < 64, State.reset.readCrcEntry i = .error .unwrittenRead) ∧
  exec (.boot Cfg.tc0) State.reset = .next State.reset

/-- R23: a step that emits `RESET` leaves the block halted; while halted no instruction but `BOOT` has any effect, and the step that
accepts any stimulus but `BOOT` only takes it off the schedule; `BOOT` clears the halt and re-creates the whole record. -/
def Obligations.HaltedBlockIgnoresAllButBoot : Prop :=
  (∀ (s t : State) (i : Instr) (as : List Action), exec i s = .next t → t.out = s.out ++ as → Action.reset ∈ as →
    t.dev.halted = true) ∧
  (∀ (s : State) (cfg : Cfg), ∃ c : Cfg,
    exec (.boot cfg) s = .next { s with cfg := c, dev := Device.atBoot } ∧ c.fwVersion = cfg.fwVersion) ∧
  (∀ (s : State) (i : Instr), s.dev.halted = true → (∀ cfg, i ≠ .boot cfg) → exec i s = .next s) ∧
  (∀ (s : State) (st : Stimulus) (rest : List Stimulus), s.dev.halted = true → s.inbox = st :: rest →
    (∀ cfg, st ≠ .boot cfg) → step s = .next { s with inbox := rest })

/-- R159: only `BT.reboot_all`, with the marker or a differing version, halts a running block, and only it asks for `RESET`; only
`BOOT` ends the halt. -/
def Obligations.OnlyRebootAllHalts : Prop :=
  (∀ (i : Instr) (s t : State), s.dev.halted = false → exec i s = .next t →
    (t.dev.halted = true ∨ ∃ as, t.out = s.out ++ as ∧ Action.reset ∈ as) →
    ∃ (m : Half) (v : Word), i = .btRebootAll m v ∧ (m = 0xDEAD#16 ∨ v ≠ s.cfg.fwVersion) ∧ t.dev.halted = true ∧
      t.out = s.out ++ [.reset]) ∧
  (∀ (i : Instr) (s t : State), s.dev.halted = true → exec i s = .next t → t.dev.halted = false → ∃ cfg, i = .boot cfg)

/-- R181: the first tick after `BOOT` sends one `start_request` with the device's versions, the firmware version being the one
supplied at this boot, and arms the countdown. That a boot takes no other parameter is the model's choice where the platform
supplies another value (log 13). -/
def Obligations.FirstTickAfterBootAnnounces : Prop :=
  ∀ (s : State) (cfg : Cfg) (rest : List Stimulus), s.inbox = .boot cfg :: .tick :: rest →
    ∃ t : State, s.run 2 = .next t ∧ t.inbox = rest ∧ t.cfg = { s.cfg with fwVersion := cfg.fwVersion } ∧
      t.out = s.out ++ [.tx (ownFrame t.cfg t.cfg.cc.startRequest (heartbeatBytes t.cfg))] ∧
      t.dev.forceStartPending = false ∧ t.dev.state = .offline ∧
      t.dev.countdown = { bits := BitVec.ofNat 32 (rearmInterval t.cfg - 10), written := true }

/-! ### Rules about the whole machine -/

/-- R103: what every instruction does to the five lifecycle bits. -/
def Obligations.LifecycleBitsFollowTable : Prop :=
  ∀ (i : Instr) (s t : State), (s.dev.halted = false ∨ ∃ cfg, i = .boot cfg) → exec i s = .next t →
    t.lifecycleBits = transitionTable s.cfg s.lifecycleBits i

/-- R2, R11, R12, R13, R14: no instruction but `BOOT` writes any configuration field; no instruction at all writes a field other
than `FW_VERSION`, and a `BOOT` gives that one the value it supplies; so along every run, with any number of boots, every field but
`FW_VERSION` is constant. That a `BOOT` which supplies another value for a constant does not change it is the model's choice
(log 13). -/
def Obligations.ConfigurationFixedBetweenBoots : Prop :=
  (∀ (i : Instr) (s t : State), (∀ cfg, i ≠ .boot cfg) → exec i s = .next t → t.cfg = s.cfg) ∧
  (∀ (s t : State) (cfg : Cfg), exec (.boot cfg) s = .next t → t.cfg = { s.cfg with fwVersion := cfg.fwVersion }) ∧
  ∀ (k : Nat) (s t : State), s.run k = .next t →
    t.cfg.serial = s.cfg.serial ∧ t.cfg.deviceType = s.cfg.deviceType ∧ t.cfg.hwVersion = s.cfg.hwVersion ∧
      t.cfg = { s.cfg with fwVersion := t.cfg.fwVersion }

/-- R110: only a tick, or `BOOT`, changes the countdown, and only a tick clears a pending start. -/
def Obligations.OnlyTickDrivesTimer : Prop :=
  ∀ (i : Instr) (s t : State), i ≠ .tick → exec i s = .next t →
    ((∀ cfg, i ≠ .boot cfg) → t.dev.countdown = s.dev.countdown) ∧
    (s.dev.forceStartPending = true → t.dev.forceStartPending = true)

/-- R21, R22, R146: between boots the captured version is changed only by a verify while an update is active, and the CRC array
only by a page CRC while one is active, at an index below the capacity. -/
def Obligations.UpdateRecordWriters : Prop :=
  ∀ (i : Instr) (s t : State), (∀ cfg, i ≠ .boot cfg) → exec i s = .next t →
    (t.dev.firmwareNewVersion ≠ s.dev.firmwareNewVersion →
      s.dev.firmwareUpdateActive = true ∧ ∃ m v, i = .btSoftwareUpdateVerify m v) ∧
    (t.dev.crc ≠ s.dev.crc →
      s.dev.firmwareUpdateActive = true ∧ ∃ page v, i = .btSoftwareUpdatePageCrc page v ∧ page.toNat < s.cfg.crcCap)

/-- R102, R16: `muted` gates nothing. Two runs, of any length and on any schedule, from states that differ in `muted` alone stop
alike or go on to states that differ in `muted` alone: the same output actions, the same registers. -/
def Obligations.MutedGatesNothing : Prop :=
  ∀ (k : Nat) (s s' : State), sameButMuted s s' →
    (∀ t, s.run k = .next t → ∃ t', s'.run k = .next t' ∧ sameButMuted t t') ∧
    (∀ r, s.run k = .refused r → s'.run k = .refused r)

/-- R155: no instruction faults in any state, and the one refusal is that of a fragmentation request with a short buffer (R33). -/
def Obligations.NothingFaults : Prop :=
  ∀ (i : Instr) (s : State),
    (∀ r, exec i s ≠ .fault r) ∧
    (∀ r, exec i s = .refused r → r = .shortBuffer ∧
      ∃ tag n buf, (i = .fragSmall tag n buf ∨ i = .fragLarge tag n buf) ∧ buf.length < n.toNat)

/-- R3, R36: a step runs the row that the next stimulus selects, with the stimulus taken off the schedule and nothing else done
(that the schedule is a list is log 1). The rest is the model's choice, in no rule of the spec: the step after `withFetchWord` runs
the instruction that the word decodes to (the byte form is log 7, the load is log 2), and with nothing pending the step changes
nothing (log 16). -/
def Obligations.StepRunsSelectedRow : Prop :=
  (∀ (s : State) (st : Stimulus) (rest : List Stimulus), s.inbox = st :: rest →
    step s = exec (select s.context st) { s with inbox := rest }) ∧
  (∀ (s : State) (nbits w : Nat) (i : Instr) (rest : List Byte) (st : Stimulus),
    decode s.context (wordRecordBytes nbits w) = .ok (i, rest) → stimulusOfWord nbits w = some st →
    step (s.withFetchWord nbits w) = exec i s) ∧
  (∀ s : State, s.inbox = [] → step s = .next s)

/-- R22, R34, R115, R117: every step keeps the invariant: the countdown in its range and a multiple of 10, or unwritten with a start
pending; the CRC array in canonical form below its capacity. Its last conjunct is the model's choice and no
rule of the spec: a register that nothing has written since `BOOT` holds the bits 0 under its mark (log 4). -/
def Obligations.StepKeepsInvariant : Prop :=
  ∀ s t : State, s.Inv → step s = .next t → t.Inv

/-- The invariant holds right after reset. That an unwritten register holds the bits 0 there (log 4), and that the configuration of
the state right after reset is TC0 (log 2), are the model's choices. -/
def Obligations.ResetMeetsInvariant : Prop := State.reset.Inv

/-! ### Encoding (log 7: the byte form is the model's own) -/

/-- Decode and encode agree: every well formed instruction, with every operand, is read back from its own bytes, and what follows
them is left unread. -/
def Obligations.DecodeEncodeRoundTrip : Prop :=
  ∀ (ctx : Context) (i : Instr) (rest : List Byte), i.wf ctx = true →
    decode ctx (encode ctx.cfg i ++ rest) = .ok (i, rest)

/-- No bit of a record is dropped: bytes that are read as a record are the bytes of that record, followed by what is left. -/
def Obligations.EveryRecordHasOneEncoding : Prop :=
  ∀ (bs rest : List Byte) (r : Record), readRecord bs = .ok (r, rest) → bs = recordBytes r ++ rest

/-- Words written out from the spec's frames (95_test_vectors.md H1, L16, T4, F2, A6), in the record form of log 7, decode to the
instructions they stand for. -/
def Obligations.WrittenWordsDecode : Prop :=
  decodeTableWord 8 0x00 = some .tick ∧
  decodeTableWord 208 0x0A000001DEAD0106010100000001 = some (.btSoftwareUpdateInit 1#8 0xDEAD#16 0x0A000001#32) ∧
  decodeTableWord 208 0x000000640000000D011001234501 = some (.ucLedFlashPosition 0x64#32) ∧
  decodeTableWord 208 0x000000000000000B011001234501 = some .ucIdentify ∧
  decodeTableWord 88 0xAB00000001000000010102 = some (.fragSmall 0x01#8 1#32 [0xAB#8]) ∧
  decodeTableWord 112 0x0A000000000001110000012345 = none ∧
  decodeTableWord 112 0x0A00000000000111000001234504 = some .txStartRequest
end

