-- ==== Sys2Proof/Tests/Slice0.lean ====
section
/-! SUPPORT. The model's own tests. Expected results come from spec/95_test_vectors.md (the vector is named in each comment) or are
computed by hand from the rule named. First the well-formedness smoke tests, then the decoding of words written out, then single
steps, then a witness for the hypotheses of every statement that has some. -/

namespace Sys2Proof.Tests

open Sys2Proof.Machine

/-! ### Helpers -/

/-- A payload of zeros. -/
def zeros : Payload := ⟨0, 0, 0, 0, 0, 0, 0⟩

/-- A frame to the device that is no NAT artifact. -/
def frameTo (ident : Ident) (cmd : Byte) (p : Payload) : RxFrame :=
  { ident := ident, dir := .toDevice, isNat := false, cmd := cmd, cmddir := 0#1, p := p }

/-- No errors counted. -/
def noErrs : ErrCounts := { rxErr := 0#32, txErr := 0#32, totErr := 0#32 }

/-- The frame of TC0 that `send` gets for a command code and a payload. -/
def sent (cmd : Byte) (p : Payload) : Action :=
  .tx { ident := 0x00012345#29, dir := .fromDevice, cmd := cmd, cmddir := 0#1, p := p }

/-- The heartbeat payload of TC0. -/
def beat : Payload := ⟨0x01, 0x00, 0x00, 0x00, 0x00, 0x00, 0x0A⟩

/-- The state of TC0 written `state/muted/identified/forceStartPending/firmwareUpdateActive` in the vectors. -/
def rec5 (l : Lifecycle) (muted identified force fua : Bool) : State :=
  { State.reset with
    dev := { State.reset.dev with state := l, muted := muted, identified := identified, forceStartPending := force,
                                  firmwareUpdateActive := fua } }

/-- A state with a countdown of `cd` milliseconds. -/
def withCd (s : State) (cd : Word) : State := { s with dev := { s.dev with countdown := Reg32.holding cd } }

/-- The step that accepts one stimulus answers a next state with these output actions and these five bits. -/
def gives (s : State) (st : Stimulus) (out : List Action) (after : State) : Bool :=
  match step { s with inbox := [st] } with
  | .next t => t.out == out && t.lifecycleBits == after.lifecycleBits && t.inbox.isEmpty && t.cfg == s.cfg
  | _ => false

/-- The instruction answers a next state with this output. -/
def sends (i : Instr) (s : State) (out : List Action) : Bool :=
  match exec i s with
  | .next t => t.out == out && t.dev == s.dev
  | _ => false

/-- The step that accepts one stimulus answers a next state that meets a test. -/
def afterStep (s : State) (st : Stimulus) (p : State → Bool) : Bool :=
  match step { s with inbox := [st] } with
  | .next t => p t
  | _ => false

/-- A frame to TC0 of form BA, BT, UC. -/
def rxBa (cmd : Byte) (p : Payload) : Stimulus := .rx (frameTo 0x00000000#29 cmd p) noErrs
def rxBt (cmd : Byte) (p : Payload) : Stimulus := .rx (frameTo 0x01000000#29 cmd p) noErrs
def rxUc (cmd : Byte) (p : Payload) : Stimulus := .rx (frameTo 0x10012345#29 cmd p) noErrs

/-- The instruction read from bytes in a context. -/
def decoded (ctx : Context) (bs : List Byte) : Option Instr :=
  match decode ctx bs with
  | .ok (i, _) => some i
  | .error _ => none

/-- A halted state. -/
def haltedState : State := { State.reset with dev.halted := true }

/-- Contexts: halted, online, a device type that hides category BT (A30), a serial that hides category UC (A36), one code for two
names. -/
def haltedCtx : Context := { resetContext with halted := true }
def onlineCtx : Context := { resetContext with online := true }
def noBtCtx : Context := { resetContext with cfg := { Cfg.tc0 with deviceType := 0x00#8 } }
def noUcCtx : Context := { resetContext with cfg := { Cfg.tc0 with serial := 0x20012345#32 } }
def clashCtx : Context :=
  { resetContext with cfg := { Cfg.tc0 with cc := { Cfg.tc0.cc with parkExtension := 0x03#8, muteAll := 0x06#8,
                                                                     alive := 0x0B#8, startRequest := 0x16#8,
                                                                     fragmentedLargeData := 0x16#8 } } }

/-! ### WellFormed: a well formed term, and an ill formed one for each check -/

theorem test_wf_halted : Instr.haltedAny.wf haltedCtx = true ∧ Instr.haltedAny.wf resetContext = false := by decide
theorem test_wf_running :
    Instr.tick.wf resetContext = true ∧ Instr.tick.wf haltedCtx = false ∧ Instr.rxDiscardNat.wf haltedCtx = false := by decide
theorem test_wf_discard_zero_ident :
    (Instr.rxDiscardFrom 0x12345#29).wf resetContext = true ∧ (Instr.rxDiscardFrom 0#29).wf resetContext = false := by decide
theorem test_wf_ba_code :
    Instr.baParkExtension.wf resetContext = true ∧ Instr.baParkExtension.wf clashCtx = false ∧
      Instr.baParkExtension.wf haltedCtx = false := by decide
theorem test_wf_ba_other :
    (Instr.baOther 0x0B#8).wf resetContext = true ∧ (Instr.baOther 0x01#8).wf resetContext = false := by decide
theorem test_wf_bt_reach :
    Instr.btMuteAll.wf resetContext = true ∧ Instr.btMuteAll.wf noBtCtx = false ∧ Instr.btMuteAll.wf haltedCtx = false := by
  decide
theorem test_wf_bt_code : Instr.btMuteAll.wf clashCtx = false ∧ (Instr.btOther 0x06#8).wf resetContext = false := by decide
theorem test_wf_uc_reach :
    Instr.ucAlive.wf resetContext = true ∧ Instr.ucAlive.wf noUcCtx = false ∧ Instr.ucAlive.wf haltedCtx = false := by decide
theorem test_wf_uc_code : Instr.ucAlive.wf clashCtx = false ∧ (Instr.ucOther 0x0C#8).wf resetContext = false := by decide
theorem test_wf_fd :
    (Instr.fdAny 0x0C#8).wf resetContext = true ∧ (Instr.fdAny 0x0C#8).wf noUcCtx = false := by decide
theorem test_wf_fw :
    (Instr.fwAny (frameTo 0x1F01ABCD#29 0x77#8 zeros)).wf resetContext = true ∧
      (Instr.fwAny (frameTo 0x1F02ABCD#29 0x77#8 zeros)).wf resetContext = false ∧
      (Instr.fwAny { frameTo 0x1F01ABCD#29 0x77#8 zeros with dir := .fromDevice }).wf resetContext = false := by decide
theorem test_wf_unmatched :
    (Instr.rxUnmatched 0x10012346#29).wf resetContext = true ∧ (Instr.rxUnmatched 0x10012345#29).wf resetContext = false := by
  decide
theorem test_wf_frag_gate :
    (Instr.fragRefuseState 2#8 1#32 []).wf resetContext = true ∧ (Instr.fragRefuseState 1#8 1#32 []).wf resetContext = false ∧
      (Instr.fragSmall 2#8 0#32 []).wf resetContext = false ∧ (Instr.fragSmall 2#8 0#32 []).wf onlineCtx = true := by decide
theorem test_wf_frag_size :
    (Instr.fragRefuseSize 1#8 65536#32 []).wf resetContext = true ∧
      (Instr.fragRefuseSize 1#8 65535#32 []).wf resetContext = false ∧
      (Instr.fragSmall 1#8 1531#32 []).wf resetContext = false ∧ (Instr.fragLarge 1#8 1530#32 []).wf resetContext = false ∧
      (Instr.fragLarge 1#8 65536#32 []).wf resetContext = false := by decide
theorem test_wf_frag_short_buffer :
    (Instr.fragSmall 1#8 2#32 [0xAA#8]).wf resetContext = false ∧
      (Instr.fragLarge 1#8 1531#32 [0xAA#8]).wf resetContext = false := by decide
theorem test_wf_boot_range :
    (Instr.boot Cfg.tc0).wf haltedCtx = true ∧ (Instr.boot { Cfg.tc0 with crcCap := 4294967296 }).wf resetContext = false ∧
      (Instr.boot { Cfg.tc0 with pulseColor := { Cfg.tc0.pulseColor with mute := 4294967296 } }).wf resetContext = false := by
  decide
theorem test_wf_tx_code : Instr.txBcAck.wf resetContext = true ∧ (Instr.txFragmentLargeData zeros).wf clashCtx = false := by
  decide
theorem test_wf_tx_fragments :
    (Instr.txFragmentSmallHeader 2#8 1531#16 0#16).wf resetContext = false ∧
      (Instr.txFragmentSmallData 0#8 0#8 0#8 0#8 0#8 0#8 0#8).wf resetContext = false ∧
      (Instr.txFragmentLargeHeader 2#8 1530#16 0#16).wf resetContext = false := by decide

/-! ### Decoding: words written out, the first byte of the record rightmost -/

theorem test_decode_tick : decodeTableWord 8 0x00 = some .tick := by decide
theorem test_decode_rx_discard_nat : decodeTableWord 208 0x0000000000000001030000000001 = some .rxDiscardNat := by decide -- A3
theorem test_decode_rx_discard_from : -- A7
    decodeTableWord 208 0x000000000000000B001001234501 = some (.rxDiscardFrom 0x10012345#29) := by decide
theorem test_decode_ba_identify_led : decodeTableWord 208 0x0000000000000001010000000001 = some .baIdentifyLed := by decide -- A1
theorem test_decode_ba_from_device : decodeTableWord 208 0x0000000000000001000000000001 = some .baIdentifyLed := by decide -- A2
theorem test_decode_ba_identify_unknown :
    decodeTableWord 208 0x0000000000000002010000000001 = some .baIdentifyUnknownExtensions := by decide
theorem test_decode_ba_extension_offline :
    decodeTableWord 208 0x0000000000000003010000000001 = some .baExtensionOffline := by decide
theorem test_decode_ba_park_extension :
    decodeTableWord 208 0x0000000000000004010000000001 = some .baParkExtension := by decide
theorem test_decode_ba_sync_ticks : -- L8
    decodeTableWord 208 0x0001E24000000005010000000001 = some (.baSyncTicks 0x0001E240#32) := by decide
theorem test_decode_ba_other : decodeTableWord 208 0x000000000000000B010000000001 = some (.baOther 0x0B#8) := by decide -- A20
theorem test_decode_bt_init : -- H1
    decodeTableWord 208 0x0A000001DEAD0106010100000001 = some (.btSoftwareUpdateInit 0x01#8 0xDEAD#16 0x0A000001#32) := by
  decide
theorem test_decode_bt_reboot_all : -- H19
    decodeTableWord 208 0x0A00000100000007010100000001 = some (.btRebootAll 0x0000#16 0x0A000001#32) := by decide
theorem test_decode_bt_verify : -- H16
    decodeTableWord 208 0x0A000000DEAD0008010100000001 = some (.btSoftwareUpdateVerify 0xDEAD#16 0x0A000000#32) := by decide
theorem test_decode_bt_page_crc : -- H9
    decodeTableWord 208 0x11223344003F0009010100000001 = some (.btSoftwareUpdatePageCrc 63#16 0x11223344#32) := by decide
theorem test_decode_bt_mute_all : decodeTableWord 208 0x000000000000000A010100000001 = some .btMuteAll := by decide -- A4
theorem test_decode_bt_other : decodeTableWord 208 0x000000000000000B010100000001 = some (.btOther 0x0B#8) := by decide -- A22
theorem test_decode_uc_identify : decodeTableWord 208 0x000000000000000B011001234501 = some .ucIdentify := by decide -- A6
theorem test_decode_uc_cmddir : decodeTableWord 208 0x000000000000000B051001234501 = some .ucIdentify := by decide -- A25
theorem test_decode_uc_identify_led : decodeTableWord 208 0x0000000000000001011001234501 = some .ucIdentifyLed := by decide
theorem test_decode_uc_alive : decodeTableWord 208 0x000000000000000C011001234501 = some .ucAlive := by decide
theorem test_decode_uc_extension_offline :
    decodeTableWord 208 0x0000000000000003011001234501 = some .ucExtensionOffline := by decide
theorem test_decode_uc_park_extension :
    decodeTableWord 208 0x0000000000000004011001234501 = some .ucParkExtension := by decide
theorem test_decode_uc_led_flash : -- L16
    decodeTableWord 208 0x000000640000000D011001234501 = some (.ucLedFlashPosition 0x00000064#32) := by decide
theorem test_decode_uc_alive_reply : decodeTableWord 208 0x000000000000000E011001234501 = some .ucAliveReply := by decide
theorem test_decode_uc_link_diagnosis : -- L19: totErr, txErr, rxErr above the payload
    decodeTableWord 208 0x000101050001000300000102000000000000000F011001234501 =
      some (.ucLinkDiagnosisRequest 0x00000102#32 0x00010003#32 0x00010105#32) := by decide
theorem test_decode_uc_mute_all : decodeTableWord 208 0x000000000000000A011001234501 = some .ucMuteAll := by decide
theorem test_decode_uc_other : decodeTableWord 208 0x0000000000000006011001234501 = some (.ucOther 0x06#8) := by decide -- A21
theorem test_decode_fd : decodeTableWord 208 0x000000000000000C010001234501 = some (.fdAny 0x0C#8) := by decide -- A8
theorem test_decode_fw : -- A10
    decodeTableWord 208 0x0000000000000077011F01ABCD01 = some (.fwAny (frameTo 0x1F01ABCD#29 0x77#8 zeros)) := by decide
theorem test_decode_unmatched : -- A17
    decodeTableWord 208 0x000000000000000B011001234601 = some (.rxUnmatched 0x10012346#29) := by decide
theorem test_decode_halted : decoded haltedCtx [0x00#8] = some .haltedAny := by decide -- H21
theorem test_decode_frag_refuse_state : -- F13: tag 2, count 3, three bytes present
    decodeTableWord 104 0x03020100000003000000030202 = some (.fragRefuseState 0x02#8 3#32 [1#8, 2#8, 3#8]) := by decide
theorem test_decode_frag_refuse_size : -- F17
    decodeTableWord 80 0x00000000000100000102 = some (.fragRefuseSize 0x01#8 65536#32 []) := by decide
theorem test_decode_frag_small : -- F14
    decodeTableWord 104 0x03020100000003000000030102 = some (.fragSmall 0x01#8 3#32 [1#8, 2#8, 3#8]) := by decide
theorem test_decode_frag_large : -- the smallest count of the tier
    decodeTableWord 80 0x00000000000005FB0102 = some (.fragLarge 0x01#8 1531#32 []) := by decide
theorem test_decode_boot : -- TC0, fields in the order of the record; the flags byte is 2: OFFLINE_ON_PARK
    decoded haltedCtx
      [0x03, 0x45, 0x23, 0x01, 0x00, 0x01, 0x01, 0x00, 0x00, 0x00, 0x0A, 64, 0, 0, 0, 0x01, 0x00, 0x02,
       0x01, 0x02, 0x03, 0x04, 0x05, 0x06, 0x07, 0x08, 0x09, 0x0A, 0x0B, 0x0C, 0x0D, 0x0E, 0x0F, 0x10, 0x11, 0x12, 0x13, 0x14,
       0x15, 0x16, 0, 0, 0, 0, 1, 0, 0, 0, 2, 0, 0, 0, 3, 0, 0, 0, 4, 0, 0, 0] = some (.boot Cfg.tc0) := by decide
theorem test_decode_tx_start_request : decodeTableWord 112 0x0A00000000000111000001234504 = some .txStartRequest := by decide -- T4
theorem test_decode_tx_alive : decodeTableWord 112 0x0A0000000000010C000001234504 = some .txAlive := by decide -- T7
theorem test_decode_tx_alive_reply : decodeTableWord 112 0x0A0000000000010E000001234504 = some .txAliveReply := by decide -- L13
theorem test_decode_tx_link_diagnosis : -- L19
    decodeTableWord 112 0x0001010500030210000001234504 = some (.txLinkDiagnosisReply 0x02#8 0x0003#16 0x00010105#32) := by
  decide
theorem test_decode_tx_bc_ack : decodeTableWord 112 0x0000000000000012000001234504 = some .txBcAck := by decide -- H1
theorem test_decode_tx_bc_nak : decodeTableWord 112 0x0000000000000013000001234504 = some .txBcNak := by decide -- H2
theorem test_decode_tx_small_header : -- F4
    decodeTableWord 112 0x001C000700020014000001234504 = some (.txFragmentSmallHeader 0x02#8 7#16 0x001C#16) := by decide
theorem test_decode_tx_small_data : -- F5
    decodeTableWord 112 0x0000000008070214000001234504 =
      some (.txFragmentSmallData 2#8 0x07#8 0x08#8 0#8 0#8 0#8 0#8) := by decide
theorem test_decode_tx_large_header : -- F11
    decodeTableWord 112 0xF50505FB00010015000001234504 = some (.txFragmentLargeHeader 0x01#8 1531#16 0xF505#16) := by decide
theorem test_decode_tx_large_data : -- F12
    decodeTableWord 112 0x0605040302010016000001234504 = some (.txFragmentLargeData ⟨0, 1, 2, 3, 4, 5, 6⟩) := by decide

/-- Bytes that are no record are refused by name. -/
theorem test_decode_refused :
    decode resetContext [] = .error .truncated ∧ decode resetContext [0x05#8] = .error (.unknownPort 0x05#8) ∧
      decode resetContext (0x01#8 :: [0, 0, 0, 0x20] ++ List.replicate 21 0#8) = .error .reservedBits ∧
      decode resetContext [0x04, 0, 0, 0, 0, 0, 0x11, 1, 0, 0, 0, 0, 0, 0x0A] = .error .notOwnFrame := by
  refine ⟨rfl, rfl, rfl, rfl⟩

/-! ### Single steps -/

theorem test_halted_any : gives { rec5 .online true true false true with dev.halted := true } -- H21
    (rxUc 0x0B#8 zeros) [] (rec5 .online true true false true) = true := by decide
theorem test_discard_nat : gives (rec5 .online true true false true) -- P5, line 2
    (.rx { frameTo 0#29 0x04#8 zeros with isNat := true } noErrs) [] (rec5 .online true true false true) = true := by decide
theorem test_discard_from : gives (rec5 .online true true false true) -- P5, line 1
    (.rx { frameTo 0x10012345#29 0x0B#8 zeros with dir := .fromDevice } noErrs) [] (rec5 .online true true false true) =
      true := by decide
theorem test_ba_identify_led : gives (rec5 .online true true false true) (rxBa 0x01#8 zeros) [.identifyOff] -- L2
    (rec5 .online true true false true) = true := by decide
theorem test_ba_identify_unknown : gives (rec5 .offline true false false false) (rxBa 0x02#8 zeros) [] -- L3
    (rec5 .offline false false true false) = true := by decide
theorem test_ba_identify_unknown_identified : gives (rec5 .online true true false false) (rxBa 0x02#8 zeros) [] -- L4
    (rec5 .online false true false false) = true := by decide
theorem test_ba_extension_offline : gives (rec5 .online true true false true) (rxBa 0x03#8 zeros) -- L5
    [.pulse .orphaned 0] (rec5 .offline false false false true) = true := by decide
theorem test_ba_extension_offline_stays : -- L5 with OFFLINE_ON_PARK = false
    gives { rec5 .online true true false true with cfg.offlineOnPark := false } (rxBa 0x03#8 zeros) [.pulse .orphaned 0]
      (rec5 .online false false false true) = true := by decide
theorem test_ba_park_extension : gives (rec5 .online false true true false) (rxBa 0x04#8 zeros) -- L6
    [.pulse .orphaned 0] (rec5 .offline false false true false) = true := by decide
theorem test_ba_sync_ticks : gives (rec5 .offline true false true false) -- L9
    (rxBa 0x05#8 ⟨0xAA, 0xBB, 0xCC, 0xFF, 0xFF, 0xFF, 0xFF⟩) [.syncTicks 0xFFFFFFFF#32] (rec5 .offline true false true false) =
      true := by decide
theorem test_ba_other : gives (rec5 .online true true false true) -- P5, line 6
    (rxBa 0x07#8 ⟨0x00, 0xAD, 0xDE, 0x01, 0x00, 0x00, 0x0A⟩) [] (rec5 .online true true false true) = true := by decide
theorem test_bt_init_ack : gives (rec5 .offline false false true false) -- H5
    (rxBt 0x06#8 ⟨0x00, 0x00, 0x00, 0xFF, 0xFF, 0xFF, 0x09⟩) [sent 0x12#8 zeros] (rec5 .offline false false true true) =
      true := by decide
theorem test_bt_init_newer_hardware : gives (rec5 .offline false false true true) -- H4
    (rxBt 0x06#8 ⟨0x02, 0xAD, 0xDE, 0x01, 0x00, 0x00, 0x0A⟩) [] (rec5 .offline false false true false) = true := by decide
theorem test_bt_reboot_same_version : gives (rec5 .offline true false true true) -- H18
    (rxBt 0x07#8 ⟨0x00, 0x00, 0x00, 0x00, 0x00, 0x00, 0x0A⟩) [] (rec5 .offline false false true false) = true := by decide
theorem test_bt_reboot_resets : -- H20
    afterStep (rec5 .offline true false true false) (rxBt 0x07#8 ⟨0x00, 0xAD, 0xDE, 0x00, 0x00, 0x00, 0x0A⟩)
      (fun t => t.dev.halted && !t.dev.muted && t.out == [.reset]) = true := by decide
theorem test_bt_verify_same_version : -- H15
    afterStep (rec5 .offline true false true true) (rxBt 0x08#8 ⟨0x00, 0x00, 0x00, 0x00, 0x00, 0x00, 0x0A⟩)
      (fun t => t.dev.firmwareNewVersion == Reg32.holding 0x0A000000#32 && t.out == [.fwVerify 0x0A000000#32 false]) = true := by
  decide
theorem test_bt_verify_inactive : gives (rec5 .offline true false true false) -- H17
    (rxBt 0x08#8 ⟨0x00, 0xAD, 0xDE, 0x01, 0x00, 0x00, 0x0A⟩) [] (rec5 .offline true false true false) = true := by decide
theorem test_bt_page_crc_last : -- H9
    afterStep (rec5 .offline true false true true) (rxBt 0x09#8 ⟨0x00, 0x3F, 0x00, 0x44, 0x33, 0x22, 0x11⟩)
      (fun t => t.dev.crc == [(63, 0x11223344#32)] && t.out == []) = true := by decide
theorem test_bt_page_crc_at_capacity : -- H10
    afterStep (rec5 .offline true false true true) (rxBt 0x09#8 ⟨0x00, 0x40, 0x00, 0x88, 0x77, 0x66, 0x55⟩)
      (fun t => t.dev.crc == [] && t.out == []) = true := by decide
theorem test_bt_mute_all : gives (rec5 .online false true false false) (rxBt 0x0A#8 zeros) [] -- L22
    (rec5 .online true true false false) = true := by decide
theorem test_bt_other : gives (rec5 .online true true false true) (rxBt 0xEE#8 zeros) [] -- P5, line 8
    (rec5 .online true true false true) = true := by decide
theorem test_uc_identify : gives (rec5 .offline true false false true) (rxUc 0x0B#8 zeros) [.pulse .identify 1] -- L10
    (rec5 .offline false true true false) = true := by decide
theorem test_uc_identify_led : gives (rec5 .online true true false true) (rxUc 0x01#8 zeros) [.identifyOn] -- L12
    (rec5 .online true true false true) = true := by decide
theorem test_uc_alive : gives (rec5 .offline true false false false) (rxUc 0x0C#8 zeros) -- L13
    [sent 0x0E#8 beat, .pulse .alive 2] (rec5 .offline true false false false) = true := by decide
theorem test_uc_extension_offline : gives (rec5 .online true true false false) (rxUc 0x03#8 zeros) -- L14
    [.pulse .orphaned 0] (rec5 .offline false false false false) = true := by decide
theorem test_uc_park_extension : gives (rec5 .online true true false false) (rxUc 0x04#8 zeros) -- L15
    [.pulse .orphaned 0] (rec5 .offline false false false false) = true := by decide
theorem test_uc_led_flash : gives (rec5 .offline false false true false) -- L16
    (rxUc 0x0D#8 ⟨0x00, 0x00, 0x00, 0x64, 0x00, 0x00, 0x00⟩) [.setSyncOffset 0x00000064#32] (rec5 .online false false true false) =
      true := by decide
theorem test_uc_alive_reply : gives (rec5 .offline true false false false) (rxUc 0x0E#8 zeros) -- L18
    [.pulse .aliveReply 3] (rec5 .offline true false false false) = true := by decide
theorem test_uc_link_diagnosis : gives (rec5 .offline true false false false) -- L19
    (.rx (frameTo 0x10012345#29 0x0F#8 zeros) { rxErr := 0x00000102#32, txErr := 0x00010003#32, totErr := 0x00010105#32 })
    [sent 0x10#8 ⟨0x02, 0x03, 0x00, 0x05, 0x01, 0x01, 0x00⟩] (rec5 .offline true false false false) = true := by decide
theorem test_uc_mute_all : gives (rec5 .online false true false false) (rxUc 0x0A#8 zeros) [.pulse .mute 4] -- L21
    (rec5 .online true true false false) = true := by decide
theorem test_uc_other : gives (rec5 .online true true false true) -- P5, line 7
    (rxUc 0x09#8 ⟨0x00, 0x00, 0x00, 0xFF, 0xFF, 0xFF, 0xFF⟩) [] (rec5 .online true true false true) = true := by decide
theorem test_fd_any : gives (rec5 .online true true false true) -- P5, line 3
    (.rx (frameTo 0x00012345#29 0x04#8 zeros) noErrs) [] (rec5 .online true true false true) = true := by decide
theorem test_fw_any : gives (rec5 .online true true false true) -- P5, line 9
    (.rx (frameTo 0x1F01ABCD#29 0x07#8 ⟨0x00, 0xAD, 0xDE, 0x01, 0x00, 0x00, 0x0A⟩) noErrs)
    [.routeFw (frameTo 0x1F01ABCD#29 0x07#8 ⟨0x00, 0xAD, 0xDE, 0x01, 0x00, 0x00, 0x0A⟩)] (rec5 .online true true false true) =
      true := by decide
theorem test_rx_unmatched : gives (rec5 .online true true false true) -- P5, line 4
    (.rx (frameTo 0x10012346#29 0x04#8 zeros) noErrs) [] (rec5 .online true true false true) = true := by decide
theorem test_tick_after_boot : -- T4
    afterStep State.reset .tick
      (fun t => t.out == [sent 0x11#8 beat] && !t.dev.forceStartPending && t.dev.countdown == Reg32.holding 364990#32) =
        true := by decide
theorem test_tick_expired : -- T7, and T6 one tick before
    afterStep (withCd (rec5 .offline true false false false) 0#32) .tick
      (fun t => t.out == [sent 0x0C#8 beat] && t.dev.countdown == Reg32.holding 364990#32) = true ∧
    afterStep (withCd (rec5 .offline true false false false) 10#32) .tick
      (fun t => t.out == [] && t.dev.countdown == Reg32.holding 0#32) = true := by decide
theorem test_frag_refuse_state : gives (rec5 .offline false false true false) -- F13
    (.frag 0x02#8 3#32 [1#8, 2#8, 3#8]) [] (rec5 .offline false false true false) = true := by decide
theorem test_frag_refuse_size : gives (rec5 .online false false true false) -- F17
    (.frag 0x01#8 65536#32 []) [] (rec5 .online false false true false) = true := by decide
theorem test_frag_small : gives (rec5 .online true false true false) -- F5, muted as in F19
    (.frag 0x02#8 8#32 [1#8, 2#8, 3#8, 4#8, 5#8, 6#8, 7#8, 8#8])
    [sent 0x14#8 ⟨0x00, 0x02, 0x00, 0x08, 0x00, 0x24, 0x00⟩, sent 0x14#8 ⟨0x01, 0x01, 0x02, 0x03, 0x04, 0x05, 0x06⟩,
     sent 0x14#8 ⟨0x02, 0x07, 0x08, 0x00, 0x00, 0x00, 0x00⟩] (rec5 .online true false true false) = true := by decide
theorem test_frag_small_empty : gives (rec5 .online false false true false) -- L = 0: the header alone
    (.frag 0x02#8 0#32 [0xAA#8]) [sent 0x14#8 ⟨0x00, 0x02, 0x00, 0x00, 0x00, 0x00, 0x00⟩] (rec5 .online false false true false) =
      true := by decide
/-- The last data fragment of F12 and of F18, from the fragment's own definition. -/
theorem test_frag_large_last :
    largeFragment Cfg.tc0 1531 ((List.range 1531).map (BitVec.ofNat 8)) 219 =
      { ident := 0x00012345#29, dir := .fromDevice, cmd := 0x16#8, cmddir := 0#1,
        p := ⟨0xF6, 0xF7, 0xF8, 0xF9, 0xFA, 0x00, 0x00⟩ } := by decide +kernel
theorem test_frag_large_short_buffer : -- R33, D27: refused by name
    (match exec (.fragLarge 0x01#8 1531#32 [0xAA#8]) State.reset with
      | .refused r => r == .shortBuffer
      | _ => false) = true := by decide
theorem test_boot : -- B2
    (match exec (.boot { Cfg.tc0 with fwVersion := 0x0A000001#32 })
        { withCd (rec5 .online true true false true) 1000#32 with dev.crc := [(3, 0x12345678#32)], dev.halted := true } with
      | .next t => t == { State.reset with cfg.fwVersion := 0x0A000001#32 }
      | _ => false) = true := by decide
theorem test_boot_keeps_constants : -- R11 to R13, R29, R180: nothing but FW_VERSION is taken from a later BOOT
    (match exec (.boot { Cfg.tc0 with serial := 0x00054321#32, deviceType := 0x02#8, hwVersion := 0x07#8, fwVersion := 1#32 })
        haltedState with
      | .next t => t.cfg == { Cfg.tc0 with fwVersion := 1#32 } && !t.dev.halted
      | _ => false) = true := by decide
theorem test_tx_start_request : sends .txStartRequest State.reset [sent 0x11#8 beat] = true := by decide -- T4
theorem test_tx_alive : sends .txAlive State.reset [sent 0x0C#8 beat] = true := by decide -- T7
theorem test_tx_alive_reply : sends .txAliveReply State.reset [sent 0x0E#8 beat] = true := by decide -- L13
theorem test_tx_link_diagnosis : sends (.txLinkDiagnosisReply 0x02#8 0x0003#16 0x00010105#32) State.reset -- L19
    [sent 0x10#8 ⟨0x02, 0x03, 0x00, 0x05, 0x01, 0x01, 0x00⟩] = true := by decide
theorem test_tx_bc_ack : sends .txBcAck State.reset [sent 0x12#8 zeros] = true := by decide -- H1
theorem test_tx_bc_nak : sends .txBcNak State.reset [sent 0x13#8 zeros] = true := by decide -- H2
theorem test_tx_small_header : sends (.txFragmentSmallHeader 0x01#8 258#16 0x00FE#16) State.reset -- F8
    [sent 0x14#8 ⟨0x00, 0x01, 0x00, 0x02, 0x01, 0xFE, 0x00⟩] = true := by decide
theorem test_tx_small_data : sends (.txFragmentSmallData 4#8 0x12#8 0x13#8 0#8 0#8 0#8 0#8) State.reset -- F7
    [sent 0x14#8 ⟨0x04, 0x12, 0x13, 0x00, 0x00, 0x00, 0x00⟩] = true := by decide
theorem test_tx_large_header : sends (.txFragmentLargeHeader 0x03#8 1531#16 0xF80F#16) State.reset -- F12
    [sent 0x15#8 ⟨0x00, 0x03, 0x00, 0xFB, 0x05, 0x0F, 0xF8⟩] = true := by decide
theorem test_tx_large_data : sends (.txFragmentLargeData ⟨0, 1, 2, 3, 4, 5, 6⟩) State.reset -- F12
    [sent 0x16#8 ⟨0x00, 0x01, 0x02, 0x03, 0x04, 0x05, 0x06⟩] = true := by decide

/-- The word of a tick, placed where the next step fetches, runs: the first tick after boot (T4). -/
theorem test_with_fetch_word :
    (match step (State.reset.withFetchWord 8 0x00) with
      | .next t => t.out == [sent 0x11#8 beat] && t.inbox.isEmpty
      | _ => false) = true := by decide

/-- The overlaps of the five forms: first match in listed order (A30 to A34, A36, A37). -/
theorem test_classify_overlaps :
    classify { Cfg.tc0 with deviceType := 0x00#8 } 0#29 = some .ba ∧
    classify { Cfg.tc0 with serial := 0#32 } 0#29 = some .ba ∧
    classify { Cfg.tc0 with deviceType := 0x11#8, serial := 0x01000000#32 } 0x11000000#29 = some .bt ∧
    classify { Cfg.tc0 with serial := 0x01000000#32 } 0x01000000#29 = some .bt ∧
    classify { Cfg.tc0 with serial := 0x0F01ABCD#32 } 0x1F01ABCD#29 = some .uc ∧
    classify { Cfg.tc0 with serial := 0x20012345#32 } 0x10012345#29 = none ∧
    classify { Cfg.tc0 with serial := 0x10012345#32 } 0x10012345#29 = some .uc := by decide
/-- The foreign identifiers of S1, A14 to A16 match no form. -/
theorem test_classify_unmatched :
    [0x10012346#29, 0x02000000#29, 0x1F020000#29, 0x00012344#29, 0x1FFFFFFF#29, 0x0F010000#29, 0x1E010000#29].all
      (fun x => classify Cfg.tc0 x == none) = true := by decide
/-- The re-arm interval of T1, T2, T3. -/
theorem test_rearm_interval :
    rearmInterval { Cfg.tc0 with serial := 0x00000040#32 } = 360000 ∧ rearmInterval Cfg.tc0 = 365000 ∧
      rearmInterval { Cfg.tc0 with serial := 0x0FFFFFFF#32 } = 423000 := by decide

/-! ### Witnesses: states and operands that meet the hypotheses of the statements, at the boundaries of their clauses -/

/-- The identifier of TC0 for a category. -/
def identOf : Category → Ident
  | .ba => 0x00000000#29
  | .bt => 0x01000000#29
  | .uc => 0x10012345#29
  | .fd => 0x00012345#29
  | .fw => 0x1F010000#29

/-- The hypotheses of `opcodeSelects`, on TC0 right after reset. -/
abbrev OpcodeWitness (c : Category) (n : CommandName) : Prop :=
  let f := frameTo (identOf c) (Cfg.tc0.cc.code n) zeros
  resetContext.halted = false ∧ codesInjective resetContext.cfg ∧ discards f = false ∧
    classify resetContext.cfg f.ident = some c ∧ f.cmd = resetContext.cfg.cc.code n

/-- The state of TC0 online and running. -/
def online : State := rec5 .online false true false false

/-- A running state with an update active and one CRC entry. -/
def updating : State := { rec5 .offline false false true true with dev.crc := [(3, 0x12345678#32)] }

/-- A running state with one more stimulus pending. -/
def pending (s : State) (st : Stimulus) : State := { s with inbox := [st, .tick] }

theorem witness_IdentifyLedRowsDriveIndicator :
    OpcodeWitness .ba .identifyLed ∧ OpcodeWitness .uc .identifyLed ∧ State.reset.dev.halted = false := by decide
theorem witness_IdentifyUnknownUnmutesAndSchedules :
    OpcodeWitness .ba .identifyUnknownExtensions ∧ State.reset.dev.halted = false := by decide
theorem witness_OfflineAndParkRowsOrphan :
    OpcodeWitness .ba .extensionOffline ∧ OpcodeWitness .ba .parkExtension ∧ OpcodeWitness .uc .extensionOffline ∧
      OpcodeWitness .uc .parkExtension ∧ online.dev.halted = false := by decide
theorem witness_SyncTicksForwardsValue : OpcodeWitness .ba .syncTicks ∧ State.reset.dev.halted = false := by decide
theorem witness_UnicastIdentifySetsFlags : OpcodeWitness .uc .identify ∧ State.reset.dev.halted = false := by decide
theorem witness_AliveRequestDrawsReply : OpcodeWitness .uc .alive ∧ State.reset.dev.halted = false := by decide
theorem witness_LedFlashPositionGoesOnline : OpcodeWitness .uc .ledFlashPosition ∧ State.reset.dev.halted = false := by decide
theorem witness_AliveReplyOnlyPulses : OpcodeWitness .uc .aliveReply ∧ State.reset.dev.halted = false := by decide
theorem witness_LinkDiagnosisReportsCounters :
    OpcodeWitness .uc .linkDiagnosisRequest ∧ State.reset.dev.halted = false := by decide
theorem witness_MuteAllRowsSetMuted :
    OpcodeWitness .uc .muteAll ∧ OpcodeWitness .bt .muteAll ∧ State.reset.dev.halted = false := by decide
theorem witness_SoftwareUpdateInitDecides :
    OpcodeWitness .bt .softwareUpdateInit ∧ State.reset.dev.halted = false ∧
    ((1#8).toNat ≤ State.reset.cfg.hwVersion.toNat ∧ (0xDEAD#16 = 0xDEAD#16 ∨ 0x0A000000#32 ≠ State.reset.cfg.fwVersion)) ∧
    ((1#8).toNat ≤ State.reset.cfg.hwVersion.toNat ∧ 0xDEAE#16 ≠ 0xDEAD#16 ∧ 0x0A000000#32 = State.reset.cfg.fwVersion) ∧
    State.reset.cfg.hwVersion.toNat < (2#8).toNat := by decide
theorem witness_RebootAllClearsAndMayReset :
    OpcodeWitness .bt .rebootAll ∧ State.reset.dev.halted = false ∧
    (0#16 = 0xDEAD#16 ∨ 0x0A000001#32 ≠ State.reset.cfg.fwVersion) ∧
    (0xDEAE#16 ≠ 0xDEAD#16 ∧ 0x0A000000#32 = State.reset.cfg.fwVersion) := by decide
theorem witness_VerifyRecordsCandidate :
    OpcodeWitness .bt .softwareUpdateVerify ∧ updating.dev.halted = false ∧ updating.dev.firmwareUpdateActive = true ∧
      State.reset.dev.halted = false ∧ State.reset.dev.firmwareUpdateActive = false := by decide
theorem witness_PageCrcBoundedStore :
    OpcodeWitness .bt .softwareUpdatePageCrc ∧ updating.dev.halted = false ∧
    (updating.dev.firmwareUpdateActive = true ∧ (63#16).toNat < updating.cfg.crcCap) ∧
    ((3 : Nat) ≠ (63#16).toNat ∧ Memory.wf updating.dev.crc) ∧
    updating.cfg.crcCap ≤ (64#16).toNat ∧ State.reset.dev.firmwareUpdateActive = false := by decide
theorem witness_DiscardPrecedesClassification :
    resetContext.halted = false ∧
    { frameTo 0#29 1#8 zeros with isNat := true }.isNat = true ∧
    (let f := { frameTo 0x10012345#29 0x0B#8 zeros with dir := .fromDevice }
     f.isNat = false ∧ f.ident ≠ 0#29 ∧ f.dir = .fromDevice) ∧
    (let f := { frameTo 0#29 1#8 zeros with dir := .fromDevice }
     f.isNat = false ∧ (f.ident = 0#29 ∨ f.dir = .toDevice)) := by decide
theorem witness_UnlistedOpcodesDoNothing :
    resetContext.halted = false ∧
    ∀ c ∈ [(Category.ba, 0x0B#8, baNames), (Category.bt, 0x0B#8, btNames), (Category.uc, 0xFF#8, ucNames)],
      discards (frameTo (identOf c.1) c.2.1 zeros) = false ∧ classify resetContext.cfg (identOf c.1) = some c.1 ∧
        ∀ n ∈ c.2.2, c.2.1 ≠ resetContext.cfg.cc.code n := by decide
theorem witness_FromDeviceIgnoredFirmwareRouted :
    resetContext.halted = false ∧ State.reset.dev.halted = false ∧
    ∀ c ∈ [Category.fd, Category.fw],
      discards (frameTo (identOf c) 0x0C#8 zeros) = false ∧ classify resetContext.cfg (identOf c) = some c := by decide
theorem witness_ForeignFramesLeaveNoTrace :
    let s (f : RxFrame) : State := pending State.reset (.rx f noErrs)
    (∀ f ∈ [frameTo 0x10012346#29 0x0B#8 zeros],
      (s f).dev.halted = false ∧ (s f).inbox = [.rx f noErrs, .tick] ∧
        f.ident.setWidth 32 ≠ 0#32 ∧ f.ident.setWidth 32 ≠ Cfg.tc0.deviceType.setWidth 32 <<< 24 ∧
        f.ident.setWidth 32 ≠ Cfg.tc0.serial ||| 0x10000000#32 ∧ f.ident.setWidth 32 ≠ Cfg.tc0.serial ∧
        f.ident.setWidth 32 &&& 0x1FFF0000#32 ≠ (Cfg.tc0.deviceType.setWidth 32 <<< 16) ||| 0x1F000000#32) ∧
    (let f := { frameTo 0x10012345#29 0x0B#8 zeros with dir := .fromDevice }
     (s f).dev.halted = false ∧ f.ident ≠ 0#29 ∧ f.dir = .fromDevice) ∧
    classify Cfg.tc0 (identOf .fd) = some .fd ∧
    (classify Cfg.tc0 (identOf .ba) = some .ba ∧ ∀ n ∈ baNames, 0x07#8 ≠ Cfg.tc0.cc.code n) ∧
    (classify Cfg.tc0 (identOf .bt) = some .bt ∧ ∀ n ∈ btNames, 0xEE#8 ≠ Cfg.tc0.cc.code n) ∧
    (classify Cfg.tc0 (identOf .uc) = some .uc ∧ ∀ n ∈ ucNames, 0x09#8 ≠ Cfg.tc0.cc.code n) ∧
    classify Cfg.tc0 (identOf .fw) = some .fw := by decide
theorem witness_DispatchReadsNoMore :
    (Cfg.tc0.serial = { Cfg.tc0 with pad := 1#8 }.serial ∧ Cfg.tc0.deviceType = { Cfg.tc0 with pad := 1#8 }.deviceType) ∧
    (let f := frameTo 0x10012345#29 0x0B#8 zeros
     let f' := frameTo 0x10012345#29 0x0C#8 beat
     f.ident = f'.ident ∧ f.dir = f'.dir ∧ f.isNat = f'.isNat) ∧
    (State.reset.cfg = online.cfg ∧ State.reset.dev.halted = online.dev.halted ∧
      classify State.reset.cfg 0x10012345#29 ≠ some .fw) := by decide
theorem witness_TickFollowsItsThreeSteps :
    resetContext.halted = false ∧ haltedState.dev.halted = true ∧
    (State.reset.dev.halted = false ∧ State.reset.dev.forceStartPending = true) ∧
    (let s := withCd online 0#32
     s.dev.halted = false ∧ s.dev.forceStartPending = false ∧ s.dev.countdown.written = true ∧
       s.dev.countdown.bits.toInt ≤ 0) ∧
    (let s := withCd online 1#32
     s.dev.halted = false ∧ s.dev.forceStartPending = false ∧ s.dev.countdown.written = true ∧
       0 < s.dev.countdown.bits.toInt) := by decide
theorem witness_UnwrittenCountdownReadsFree :
    online.dev.halted = false ∧ online.dev.forceStartPending = false ∧ online.dev.countdown.written = false := by decide
theorem witness_RearmIntervalRange : (0 : Nat) < 64 ∧ (63 : Nat) < 64 := by decide

/-- A tick on a positive countdown only counts down. -/
theorem exec_quiet_tick (s : State) (hh : s.dev.halted = false) (hf : s.dev.forceStartPending = false)
    (c : Nat) (hc : c < 2 ^ 31) (hp : 0 < c) (hcd : s.dev.countdown = Reg32.holding (BitVec.ofNat 32 c)) :
    exec .tick s = .next { s with dev := { s.dev with countdown := Reg32.holding (BitVec.ofNat 32 c - 10#32) } } := by
  have hw : s.dev.countdown.written = true := by rw [hcd]; rfl
  have hb : s.dev.countdown.bits = BitVec.ofNat 32 c := by rw [hcd]; rfl
  have hpos : 0 < s.dev.countdown.bits.toInt := by
    rw [hb, BitVec.toInt_eq_toNat_of_lt (by simp; omega)]; simp; omega
  rcases State.tickHeartbeat_cases s with ⟨h, -⟩ | ⟨-, h, -⟩ | ⟨-, -, h⟩
  · rw [hf] at h; cases h
  · rw [State.settleCountdown_written hw] at h; omega
  · show whileRunning s s.tickHeartbeat.stepCountdown = _
    rw [whileRunning_running hh, h, State.settleCountdown_written hw, State.stepCountdown, hb]; rfl

/-- A run of ticks that the countdown outlasts goes on with no start pending. -/
theorem run_quiet_ticks : ∀ (k n c : Nat) (s : State), s.dev.halted = false → s.dev.forceStartPending = false →
    s.dev.countdown = Reg32.holding (BitVec.ofNat 32 c) → c < 2 ^ 31 → 10 * k ≤ c → k ≤ n → s.inbox = List.replicate n .tick →
    ∃ t : State, s.run k = .next t ∧ t.dev.forceStartPending = false ∧ t.dev.halted = false
  | 0, _, _, s, hh, hf, _, _, _, _, _ => ⟨s, rfl, hf, hh⟩
  | k + 1, 0, _, _, _, _, _, _, _, hn, _ => absurd hn (by omega)
  | k + 1, n + 1, c, s, hh, hf, hcd, hc, hk, hn, hi => by
    have hs : step s = exec .tick { s with inbox := List.replicate n .tick } := by
      rw [List.replicate_succ] at hi
      unfold step State.accept
      rw [hi]
      simp [select, State.context, hh]
    rw [exec_quiet_tick _ (by exact hh) (by exact hf) c hc (by omega) (by exact hcd)] at hs
    have e : BitVec.ofNat 32 c - 10#32 = BitVec.ofNat 32 (c - 10) := by
      apply BitVec.eq_of_toNat_eq; simp; omega
    obtain ⟨t, ht⟩ := run_quiet_ticks k n (c - 10)
      { s with inbox := List.replicate n .tick, dev := { s.dev with countdown := Reg32.holding (BitVec.ofNat 32 c - 10#32) } }
      hh hf (by rw [e]) (by omega) (by omega) (by omega) rfl
    refine ⟨t, ?_, ht.2⟩
    show State.runSteps (k + 1) s = _
    rw [State.runSteps, hs]
    exact ht.1

/-- A device with `N = 360000` whose countdown has run out, before 36001 ticks. -/
def beforePeriod : State :=
  { withCd online 0#32 with
    cfg.serial := 0x00000040#32,
    inbox := List.replicate 36001 .tick }

/-- A run goes on from its first step. -/
theorem run_succ (s t : State) (k : Nat) (h : step s = .next t) : s.run (k+1) = t.run k := by
  show State.runSteps _ _ = _
  rw [State.runSteps, h]

/-- The state after its first tick, which sends an `alive`. -/
def afterBeat : State :=
  { beforePeriod with
    dev := { beforePeriod.dev with countdown := Reg32.holding 359990#32 },
    out := [.tx (ownFrame beforePeriod.cfg 0x0C#8 (heartbeatBytes beforePeriod.cfg))],
    inbox := List.replicate 36000 .tick }

theorem firstBeat : step beforePeriod = .next afterBeat := by
  have : beforePeriod.inbox = .tick :: List.replicate 36000 .tick := rfl
  unfold step State.accept
  rw [this]
  rfl

theorem witness_HeartbeatPeriod :
    beforePeriod.inbox = .tick :: (List.replicate 35999 .tick ++ .tick :: []) ∧
    (∃ t₁ f, beforePeriod.run 1 = .next t₁ ∧ t₁.out = beforePeriod.out ++ [.tx f]) ∧
    (∀ k, 1 ≤ k → k ≤ (List.replicate 35999 Stimulus.tick).length + 1 →
      ∃ t : State, beforePeriod.run k = .next t ∧ t.dev.forceStartPending = false ∧ t.dev.halted = false) ∧
    tickCount (List.replicate 35999 .tick) = rearmInterval beforePeriod.cfg / 10 - 1 := by
  have hN : rearmInterval beforePeriod.cfg = 360000 := by decide
  refine ⟨?_, ⟨afterBeat, _, ?_, rfl⟩, ?_, ?_⟩
  · show List.replicate 36001 _ = _
    rw [← List.replicate_succ', ← List.replicate_succ]
  · rw [run_succ _ _ _ firstBeat]; rfl
  · intro k h1 hk
    rw [List.length_replicate] at hk
    obtain ⟨k, rfl⟩ : ∃ j, k = j + 1 := ⟨k - 1, by omega⟩
    rw [run_succ _ _ _ firstBeat]
    exact run_quiet_ticks k 36000 359990 afterBeat rfl rfl rfl (by omega) (by omega) (by omega) rfl
  · rw [hN, tickCount, List.count_replicate_self]

theorem witness_TimerConsultsNothingElse :
    let s := withCd online 20#32
    let s' := withCd (rec5 .offline true false false true) 20#32
    s.dev.halted = false ∧ s'.dev.halted = false ∧ s.cfg = s'.cfg ∧ s.draws = s'.draws ∧
      s.dev.forceStartPending = s'.dev.forceStartPending ∧ s.dev.countdown = s'.dev.countdown := by decide
theorem witness_FragmentationRequestRouting :
    resetContext.halted = false ∧ (resetContext.online = false ∧ 2#8 ≠ resetContext.cfg.tagExtPageCrc) ∧
    onlineCtx.online = true ∧ 1#8 = resetContext.cfg.tagExtPageCrc ∧ 65536 ≤ (65536#32).toNat ∧ (1530#32).toNat ≤ 1530 ∧
    (1531 ≤ (1531#32).toNat ∧ (1531#32).toNat ≤ 65535) ∧ (1531 ≤ (65535#32).toNat ∧ (65535#32).toNat ≤ 65535) := by decide

/-- The hypotheses on a transfer of `n` bytes with a buffer of exactly that length. -/
theorem witness_transfer (n : Nat) (h : n < 4294967296) :
    online.dev.halted = false ∧ (online.dev.state = .online ∨ 2#8 = online.cfg.tagExtPageCrc) ∧
      (BitVec.ofNat 32 n).toNat ≤ (List.replicate n 0xFF#8).length := by
  refine ⟨rfl, .inl rfl, ?_⟩
  rw [List.length_replicate, BitVec.toNat_ofNat]
  omega

theorem witness_SmallTransferFrames :
    (online.dev.halted = false ∧ (online.dev.state = .online ∨ 2#8 = online.cfg.tagExtPageCrc) ∧
      (1530#32).toNat ≤ (List.replicate 1530 0xFF#8).length) ∧ (1530#32).toNat ≤ 1530 ∧
    (1 ≤ 255 ∧ 255 ≤ ((1530#32).toNat + 5) / 6) := ⟨witness_transfer 1530 (by decide), by decide, by decide⟩
theorem witness_LargeTransferFrames :
    (online.dev.halted = false ∧ (online.dev.state = .online ∨ 2#8 = online.cfg.tagExtPageCrc) ∧
      (1531#32).toNat ≤ (List.replicate 1531 0xFF#8).length) ∧ (1531 ≤ (1531#32).toNat ∧ (1531#32).toNat ≤ 65535) ∧
    (1 ≤ 219 ∧ 219 ≤ ((1531#32).toNat + 6) / 7) := ⟨witness_transfer 1531 (by decide), by decide, by decide⟩
theorem witness_FragmentCounts (n : Nat) (h : n ∈ [1530, 1531, 65535, 65536]) :
    let st : Stimulus := .frag 2#8 (BitVec.ofNat 32 n) (List.replicate n 0xFF#8)
    (pending online st).inbox = st :: [.tick] ∧ (pending online st).dev.halted = false ∧
      ((pending online st).dev.state = .online ∨ 2#8 = (pending online st).cfg.tagExtPageCrc) ∧
      (BitVec.ofNat 32 n).toNat ≤ (List.replicate n 0xFF#8).length := by
  refine ⟨rfl, witness_transfer n ?_⟩
  simp only [List.mem_cons, List.not_mem_nil, or_false] at h
  omega
theorem witness_SmallTransferReassembles :
    (State.reset.dev.halted = false ∧ (State.reset.dev.state = .online ∨ 1#8 = State.reset.cfg.tagExtPageCrc)) ∧
      (8#32).toNat ≤ 1530 ∧ (8#32).toNat ≤ (List.replicate 9 0xFF#8).length := by decide
theorem witness_LargeTransferReassembles :
    (online.dev.halted = false ∧ (online.dev.state = .online ∨ 2#8 = online.cfg.tagExtPageCrc) ∧
      (65535#32).toNat ≤ (List.replicate 65535 0xFF#8).length) ∧ (1531 ≤ (65535#32).toNat ∧ (65535#32).toNat ≤ 65535) :=
  ⟨witness_transfer 65535 (by decide), by decide⟩
theorem witness_ZeroPadKeepsSum :
    Cfg.tc0.pad = 0#8 ∧ 1530 ≤ (List.replicate 1530 0xFF#8).length ∧ 65535 ≤ (List.replicate 65535 0xFF#8).length := by
  refine ⟨rfl, ?_, ?_⟩ <;> rw [List.length_replicate]
theorem witness_FragmentationIsStateless :
    let s := { rec5 .online true true false true with draws := 7 }
    Instr.fragSmall 2#8 1#32 [0xAA#8] ∈
        [Instr.fragRefuseState 2#8 1#32 [0xAA#8], .fragRefuseSize 2#8 1#32 [0xAA#8], .fragSmall 2#8 1#32 [0xAA#8],
         .fragLarge 2#8 1#32 [0xAA#8]] ∧
      online.cfg = s.cfg ∧ online.dev.state = s.dev.state ∧ online.dev.halted = s.dev.halted ∧
      sends (.fragSmall 2#8 1#32 [0xAA#8]) online
        [sent 0x14#8 ⟨0x00, 0x02, 0x00, 0x01, 0x00, 0xAA, 0x00⟩, sent 0x14#8 ⟨0x01, 0xAA, 0, 0, 0, 0, 0⟩] = true := by decide
theorem witness_ShortBufferRefused :
    online.dev.halted = false ∧ (online.dev.state = .online ∨ 2#8 = online.cfg.tagExtPageCrc) ∧
      [0xAA#8].length < (2#32).toNat := by decide
theorem witness_OnlyRequestedBytesRead :
    (1#32).toNat ≤ [0xAA#8, 1#8].length ∧ (1#32).toNat ≤ [0xAA#8].length ∧
      [0xAA#8, 1#8].take (1#32).toNat = [0xAA#8].take (1#32).toNat := by decide
theorem witness_HeartbeatFormats : State.reset.dev.halted = false := by decide
theorem witness_ReplyFormats : State.reset.dev.halted = false := by decide
theorem witness_FragmentFormats : State.reset.dev.halted = false := by decide
theorem witness_EveryFrameSentIsOwn : sends .txBcAck State.reset [sent 0x12#8 zeros] = true := by decide
theorem witness_BootRecreatesRecord :
    ((0 : Nat) < Cfg.tc0.crcCap ∧ (63 : Nat) < Cfg.tc0.crcCap) ∧
      { Cfg.tc0 with fwVersion := 1#32 } =
        { State.reset.cfg with fwVersion := { Cfg.tc0 with fwVersion := 1#32 }.fwVersion } := by decide
theorem witness_HaltedBlockIgnoresAllButBoot :
    (∃ t, exec (.btRebootAll 0xDEAD#16 0#32) State.reset = .next t ∧ t.out = State.reset.out ++ [.reset] ∧
        Action.reset ∈ [Action.reset]) ∧
      haltedState.dev.halted = true ∧ (∀ cfg, Instr.tick ≠ .boot cfg) ∧
      (pending haltedState .tick).inbox = .tick :: [.tick] ∧ (∀ cfg, Stimulus.tick ≠ .boot cfg) :=
  ⟨⟨_, rfl, rfl, by decide⟩, by decide, by simp, rfl, by simp⟩
theorem witness_OnlyRebootAllHalts :
    (State.reset.dev.halted = false ∧ ∃ t, exec (.btRebootAll 0xDEAD#16 0#32) State.reset = .next t ∧ t.dev.halted = true ∧
      t.out = State.reset.out ++ [.reset] ∧ Action.reset ∈ [Action.reset]) ∧
    (haltedState.dev.halted = true ∧ ∃ t, exec (.boot Cfg.tc0) haltedState = .next t ∧ t.dev.halted = false) :=
  ⟨⟨rfl, _, rfl, rfl, rfl, by decide⟩, rfl, _, rfl, rfl⟩
theorem witness_FirstTickAfterBootAnnounces :
    (pending haltedState (.boot Cfg.tc0)).inbox = .boot Cfg.tc0 :: .tick :: [] := by decide
theorem witness_LifecycleBitsFollowTable :
    (online.dev.halted = false ∧ ∃ t, exec .ucMuteAll online = .next t) ∧
      (∃ cfg, Instr.boot Cfg.tc0 = .boot cfg) ∧ ∃ t, exec (.boot Cfg.tc0) haltedState = .next t :=
  ⟨⟨rfl, _, rfl⟩, ⟨_, rfl⟩, _, rfl⟩
theorem witness_ConfigurationFixedBetweenBoots :
    ((∀ cfg, Instr.tick ≠ .boot cfg) ∧ ∃ t, exec .tick State.reset = .next t) ∧
      (∃ t, exec (.boot { Cfg.tc0 with fwVersion := 1#32 }) haltedState = .next t) ∧
      ∃ t, (pending haltedState (.boot { Cfg.tc0 with serial := 1#32, fwVersion := 1#32 })).run 2 = .next t :=
  ⟨⟨by simp, _, rfl⟩, ⟨_, rfl⟩, _, rfl⟩
theorem witness_OnlyTickDrivesTimer :
    (Instr.ucIdentify ≠ .tick ∧ ∀ cfg, Instr.ucIdentify ≠ .boot cfg) ∧ State.reset.dev.forceStartPending = true ∧
      ∃ t, exec .ucIdentify State.reset = .next t := ⟨by simp, rfl, _, rfl⟩
theorem witness_UpdateRecordWriters :
    (∀ cfg, Instr.btSoftwareUpdateVerify 0#16 1#32 ≠ .boot cfg) ∧
      (∃ t, exec (.btSoftwareUpdateVerify 0#16 1#32) updating = .next t ∧
        t.dev.firmwareNewVersion ≠ updating.dev.firmwareNewVersion) ∧
      ∃ t, exec (.btSoftwareUpdatePageCrc 63#16 1#32) updating = .next t ∧ t.dev.crc ≠ updating.dev.crc :=
  ⟨by simp, ⟨_, rfl, by decide⟩, _, rfl, by decide⟩
theorem witness_MutedGatesNothing :
    sameButMuted (pending online .tick) (pending (rec5 .online true true false false) .tick) ∧
      ∃ t, State.run (pending online (rxUc 0x0C#8 zeros)) 1 = .next t := ⟨by decide, _, rfl⟩
theorem witness_NothingFaults : ∃ r, exec (.fragSmall 1#8 2#32 [0xAA#8]) State.reset = .refused r := ⟨_, rfl⟩
theorem witness_StepRunsSelectedRow :
    (pending online .tick).inbox = .tick :: [.tick] ∧
    decoded State.reset.context (wordRecordBytes 8 0) = some .tick ∧ stimulusOfWord 8 0 = some .tick ∧
    State.reset.inbox = [] := by decide
theorem witness_StepKeepsInvariant :
    (pending State.reset .tick).Inv ∧ ∃ t, step (pending State.reset .tick) = .next t := ⟨by decide, _, rfl⟩
theorem witness_DecodeEncodeRoundTrip :
    (Instr.btSoftwareUpdateInit 1#8 0xDEAD#16 0x0A000001#32).wf resetContext = true ∧
      (Instr.txFragmentSmallData 255#8 1#8 2#8 3#8 4#8 5#8 6#8).wf resetContext = true := by decide
theorem witness_EveryRecordHasOneEncoding :
    readRecord [0x02, 0x02, 1, 0, 0, 0, 1, 0, 0, 0, 0xAB, 0x77] =
      .ok (.stimulus (.frag 0x02#8 1#32 [0xAB#8]), [0x77#8]) := rfl

end Sys2Proof.Tests
end

section
/-! What every step runs (spec/00_scope.md R3, R36), and what every step and every run leave of the configuration (R2, R11 to
R14). The frame lemmas and the two lemmas about steps and runs serve later proofs as well. -/

namespace Sys2Proof.Machine

/-! ### Steps and runs -/

/-- With nothing pending the block is idle (R24, log 16). -/
theorem step_nil {s : State} (h : s.inbox = []) : step s = .next s := by
  simp [step, State.accept_nil h]

/-- All that a step can do: idle, or run the row that the next stimulus selects. -/
theorem step_cases {s : State} {o : Host.Outcome State Fault Refusal} (h : step s = o) :
    (s.inbox = [] ∧ o = .next s) ∨
    ∃ st rest, s.inbox = st :: rest ∧ o = exec (select s.context st) { s with inbox := rest } := by
  cases hin : s.inbox with
  | nil => exact .inl ⟨rfl, h.symm.trans (step_nil hin)⟩
  | cons st rest => exact .inr ⟨st, rest, rfl, h.symm.trans (step_cons hin)⟩

/-- A run that goes on for one step more has a first step that goes on. -/
theorem State.run_succ_eq_next {s t : State} {k : Nat} (h : s.run (k + 1) = .next t) :
    ∃ u, step s = .next u ∧ u.run k = .next t := by
  cases hs : step s with
  | next u => exact ⟨u, rfl, (State.run_succ_next k hs).symm.trans h⟩
  | fault r => rw [State.run_succ_fault k hs] at h; cases h
  | refused r => rw [State.run_succ_refused k hs] at h; cases h

/-- The induction over runs, once: a reflexive and transitive relation that every step keeps relates the ends of every run. -/
theorem State.run_induction {R : State → State → Prop} (refl : ∀ s, R s s) (trans : ∀ s t u, R s t → R t u → R s u)
    (hstep : ∀ s t, step s = .next t → R s t) (k : Nat) (s t : State) (h : s.run k = .next t) : R s t := by
  induction k generalizing s with
  | zero => cases h; exact refl _
  | succ k ih =>
    obtain ⟨u, hu, hrun⟩ := State.run_succ_eq_next h
    exact trans s u t (hstep s u hu) (ih u hrun)

/-! ### The shared operations leave the configuration alone -/

@[simp] theorem State.settleCountdown_cfg (s : State) : s.settleCountdown.cfg = s.cfg := by
  cases h : s.dev.countdown.written
  · rw [State.settleCountdown_unwritten h]
  · rw [State.settleCountdown_written h]

@[simp] theorem State.storeCrc_cfg (s : State) (i : Nat) (v : BitVec Config.crcWidth) : (s.storeCrc i v).cfg = s.cfg := by
  obtain ⟨_, h⟩ | ⟨_, h⟩ := s.storeCrc_cases i v <;> rw [h]

@[simp] theorem State.orphan_cfg (s : State) : s.orphan.cfg = s.cfg := by rw [State.orphan_eq]

@[simp] theorem State.tickHeartbeat_cfg (s : State) : s.tickHeartbeat.cfg = s.cfg := by
  obtain ⟨_, h⟩ | ⟨_, _, h⟩ | ⟨_, _, h⟩ := s.tickHeartbeat_cases <;> simp [h]

/-- A guarded step leaves the configuration alone when the state it would go on to does. -/
theorem whileRunning_cfg {s t u : State} (h : whileRunning s t = .next u) (ht : t.cfg = s.cfg) : u.cfg = s.cfg := by
  obtain ⟨_, hu⟩ | ⟨_, hu⟩ := whileRunning_cases h <;> cases hu
  · rfl
  · exact ht

theorem transfer_cfg {tag : Byte} {byteCount : Word} {buf : List Byte} {frames : List OutFrame} {s t : State}
    (h : transfer tag byteCount buf frames s = .next t) : t.cfg = s.cfg := by
  obtain ⟨_, ht⟩ | ⟨_, _, ⟨_, ht⟩ | ⟨_, ht⟩⟩ := transfer_cases h <;> cases ht <;> rfl

/-! ### Instructions and the configuration -/

/-- `BOOT` writes `FW_VERSION` and no other field (R14, log 13). -/
theorem exec_boot_cfg {s t : State} {cfg : Cfg} (h : exec (.boot cfg) s = .next t) :
    t.cfg = { s.cfg with fwVersion := cfg.fwVersion } := by
  cases h
  exact s.bootWith_cfg cfg

/-- No instruction but `BOOT` writes the configuration (R2): a row has no effect, is a transfer, or is a guarded step whose
operations leave the configuration alone. -/
theorem exec_cfg_of_ne_boot {i : Instr} {s t : State} (hi : ∀ cfg, i ≠ .boot cfg) (h : exec i s = .next t) :
    t.cfg = s.cfg := by
  cases i with
  | boot cfg => exact absurd rfl (hi cfg)
  | haltedAny | rxDiscardNat | rxDiscardFrom _ | baOther _ | btOther _ | ucOther _ | fdAny _ | rxUnmatched _
  | fragRefuseState _ _ _ | fragRefuseSize _ _ _ => cases h; rfl
  | fragSmall _ _ _ | fragLarge _ _ _ => exact transfer_cfg h
  | baExtensionOffline | baParkExtension | ucExtensionOffline | ucParkExtension =>
    exact whileRunning_cfg h s.orphan_cfg
  | tick => exact whileRunning_cfg h (by simp)
  | baIdentifyUnknownExtensions => exact whileRunning_cfg h (by split <;> rfl)
  | btSoftwareUpdateInit _ _ _ => exact whileRunning_cfg h (by split <;> [split <;> rfl; rfl])
  | btRebootAll _ _ => exact whileRunning_cfg h (by split <;> rfl)
  | btSoftwareUpdateVerify _ _ => exact whileRunning_cfg h (by split <;> rfl)
  | btSoftwareUpdatePageCrc _ _ => exact whileRunning_cfg h (by split <;> simp)
  | baIdentifyLed | baSyncTicks _ | btMuteAll | ucIdentify | ucIdentifyLed | ucAlive | ucLedFlashPosition _
  | ucAliveReply | ucLinkDiagnosisRequest _ _ _ | ucMuteAll | fwAny _ | txStartRequest | txAlive | txAliveReply
  | txLinkDiagnosisReply _ _ _ | txBcAck | txBcNak | txFragmentSmallHeader _ _ _ | txFragmentSmallData _ _ _ _ _ _ _
  | txFragmentLargeHeader _ _ _ | txFragmentLargeData _ => exact whileRunning_cfg h rfl

/-! ### The module's constants -/

/-- The two configurations differ in `FW_VERSION` at most: every constant of the module is the same. -/
def SameConstants (c d : Cfg) : Prop := d = { c with fwVersion := d.fwVersion }

theorem SameConstants.of_eq {c d : Cfg} (h : d = c) : SameConstants c d := by
  subst h
  rfl

theorem SameConstants.trans {c d e : Cfg} (hcd : SameConstants c d) (hde : SameConstants d e) :
    SameConstants c e := by
  unfold SameConstants at *
  rw [hde, hcd]

/-- No instruction writes a constant of the module (R11, R12, R13). -/
theorem exec_sameConstants {i : Instr} {s t : State} (h : exec i s = .next t) : SameConstants s.cfg t.cfg := by
  by_cases hi : ∃ cfg, i = .boot cfg
  · obtain ⟨cfg, rfl⟩ := hi
    rw [exec_boot_cfg h]
    rfl
  · exact .of_eq (exec_cfg_of_ne_boot (fun cfg hc => hi ⟨cfg, hc⟩) h)

theorem step_sameConstants {s t : State} (h : step s = .next t) : SameConstants s.cfg t.cfg := by
  obtain ⟨_, ht⟩ | ⟨st, rest, _, ht⟩ := step_cases h
  · cases ht
    exact .of_eq rfl
  · exact exec_sameConstants (s := { s with inbox := rest }) ht.symm

theorem State.run_sameConstants (k : Nat) (s t : State) (h : s.run k = .next t) : SameConstants s.cfg t.cfg :=
  State.run_induction (R := fun s t => SameConstants s.cfg t.cfg) (fun _ => .of_eq rfl)
    (fun _ _ _ => SameConstants.trans) (fun _ _ => step_sameConstants) k s t h

/-- Settles O48: an instruction keeps the configuration or is a `BOOT`, which writes `FW_VERSION` alone; the constants then survive
every run, by induction on its length. -/
theorem configurationFixedBetweenBoots : Obligations.ConfigurationFixedBetweenBoots := by
  refine ⟨fun _ _ _ => exec_cfg_of_ne_boot, fun _ _ _ => exec_boot_cfg, fun k s t h => ?_⟩
  have hconst : t.cfg = { s.cfg with fwVersion := t.cfg.fwVersion } := State.run_sameConstants k s t h
  exact ⟨by rw [hconst], by rw [hconst], by rw [hconst], hconst⟩

/-! ### The step on a word -/

/-- A word stands for a stimulus when its bytes open with that stimulus's record (log 7). -/
theorem stimulusOfWord_eq_some_iff {nbits w : Nat} {st : Stimulus} :
    stimulusOfWord nbits w = some st ↔ ∃ rest, readRecord (wordRecordBytes nbits w) = .ok (.stimulus st, rest) := by
  unfold stimulusOfWord
  rcases readRecord (wordRecordBytes nbits w) with e | ⟨st' | f, rest⟩ <;> simp

/-- The decoder gives the record of a stimulus the row that the stimulus selects. -/
theorem decode_of_stimulus {ctx : Context} {bs rest : List Byte} {st : Stimulus}
    (h : readRecord bs = .ok (.stimulus st, rest)) : decode ctx bs = .ok (select ctx st, rest) := by
  unfold decode
  rw [h]
  rfl

/-- Loading the word of a stimulus puts that stimulus at the head of the schedule (log 2). -/
theorem State.withFetchWord_eq_pushStimulus {s : State} {nbits w : Nat} {st : Stimulus}
    (h : stimulusOfWord nbits w = some st) : s.withFetchWord nbits w = s.pushStimulus st := by
  simp [State.withFetchWord, State.pushWord, h]

/-- The step after a stimulus is put at the head of the schedule runs its row on the state as it was before. -/
theorem step_pushStimulus (s : State) (st : Stimulus) : step (s.pushStimulus st) = exec (select s.context st) s :=
  step_cons (s.pushStimulus_inbox st)

/-- Settles O53: the accepted stimulus selects the row; a loaded word's record is read by the decoder as the stimulus that the load
puts at the head of the schedule, so both select the same row. -/
theorem stepRunsSelectedRow : Obligations.StepRunsSelectedRow := by
  refine ⟨fun _ _ _ => step_cons, fun s nbits w i rest st hdec hst => ?_, fun _ => step_nil⟩
  obtain ⟨rest', hread⟩ := stimulusOfWord_eq_some_iff.1 hst
  have hi : select s.context st = i := by
    have hpair := (decode_of_stimulus hread).symm.trans hdec
    cases hpair
    rfl
  calc step (s.withFetchWord nbits w)
      = step (s.pushStimulus st) := by rw [State.withFetchWord_eq_pushStimulus hst]
    _ = exec (select s.context st) s := step_pushStimulus s st
    _ = exec i s := by rw [hi]

end Sys2Proof.Machine
end

section
/-! What the Device record keeps (spec/10_state.md R21 to R23, R34, R115, R117): once and for all, what an instruction can do to a
state (`ExecEffect`), and from it the rows without effect, the halt, the writers of the update record, and the invariant. -/

namespace Sys2Proof.Machine

/-! ### Rows without effect -/

/-- Settles O15: the meaning of each of the eight rows is the state it is given. -/
theorem ignoredRowsChangeNothing : Obligations.IgnoredRowsChangeNothing := by
  intro s ident cmd
  exact ⟨rfl, rfl, rfl, rfl, rfl, rfl, rfl, rfl⟩

/-! ### What the tick leaves alone

The configuration is dealt with above (`State.settleCountdown_cfg`, `State.tickHeartbeat_cfg`). -/

@[simp] theorem State.settleCountdown_out (s : State) : s.settleCountdown.out = s.out := by
  cases h : s.dev.countdown.written
  · rw [State.settleCountdown_unwritten h]
  · rw [State.settleCountdown_written h]

@[simp] theorem State.settleCountdown_dev_firmwareNewVersion (s : State) :
    s.settleCountdown.dev.firmwareNewVersion = s.dev.firmwareNewVersion := by
  cases h : s.dev.countdown.written
  · rw [State.settleCountdown_unwritten h]
  · rw [State.settleCountdown_written h]

@[simp] theorem State.settleCountdown_dev_crc (s : State) : s.settleCountdown.dev.crc = s.dev.crc := by
  cases h : s.dev.countdown.written
  · rw [State.settleCountdown_unwritten h]
  · rw [State.settleCountdown_written h]

@[simp] theorem State.tickHeartbeat_dev_firmwareNewVersion (s : State) :
    s.tickHeartbeat.dev.firmwareNewVersion = s.dev.firmwareNewVersion := by
  obtain ⟨_, h⟩ | ⟨_, _, h⟩ | ⟨_, _, h⟩ := s.tickHeartbeat_cases <;> simp [h]

@[simp] theorem State.tickHeartbeat_dev_crc (s : State) : s.tickHeartbeat.dev.crc = s.dev.crc := by
  obtain ⟨_, h⟩ | ⟨_, _, h⟩ | ⟨_, _, h⟩ := s.tickHeartbeat_cases <;> simp [h]

/-! ### Output without `RESET` -/

/-- The output grew by actions none of which is `RESET`. -/
def State.GrewWithoutReset (s t : State) : Prop := ∃ as, t.out = s.out ++ as ∧ Action.reset ∉ as

namespace State.GrewWithoutReset

variable {s t u : State}

theorem of_out_eq (h : t.out = s.out) : s.GrewWithoutReset t := ⟨[], by simp [h], by simp⟩

theorem append {as : List Action} (h : s.GrewWithoutReset t) (hout : u.out = t.out ++ as) (has : Action.reset ∉ as) :
    s.GrewWithoutReset u := by
  obtain ⟨bs, hbs, hmem⟩ := h
  exact ⟨bs ++ as, by rw [hout, hbs, List.append_assoc], by simp [hmem, has]⟩

/-- Whatever actions such an output grew by, `RESET` is none of them. -/
theorem reset_not_mem {as : List Action} (h : s.GrewWithoutReset t) (hout : t.out = s.out ++ as) : Action.reset ∉ as := by
  obtain ⟨bs, hbs, hmem⟩ := h
  rwa [← List.append_cancel_left (hbs.symm.trans hout)]

/-- A tick sends a heartbeat or nothing (R112). -/
theorem tick (s : State) : s.GrewWithoutReset s.tickHeartbeat.stepCountdown := by
  have hs : s.GrewWithoutReset s := of_out_eq rfl
  obtain ⟨_, h⟩ | ⟨_, _, h⟩ | ⟨_, _, h⟩ := s.tickHeartbeat_cases
  · exact hs.append (as := [.tx (heartbeatFrame s.cfg .startRequest)]) (by simp [h]) (by simp)
  · exact hs.append (as := [.tx (heartbeatFrame s.cfg .alive)]) (by simp [h]) (by simp)
  · exact of_out_eq (by simp [h])

end State.GrewWithoutReset

/-! ### Quiet changes -/

/-- `t` comes from `s` by a change that writes at most the lifecycle state, the flags and the output: the configuration, the
schedule, the registers and the halt stay, a pending start stays pending, and no `RESET` is emitted. -/
structure State.Quiet (s t : State) : Prop where
  cfg : t.cfg = s.cfg
  inbox : t.inbox = s.inbox
  draws : t.draws = s.draws
  countdown : t.dev.countdown = s.dev.countdown
  newVersion : t.dev.firmwareNewVersion = s.dev.firmwareNewVersion
  crc : t.dev.crc = s.dev.crc
  halted : t.dev.halted = s.dev.halted
  start : s.dev.forceStartPending = true → t.dev.forceStartPending = true
  out : s.GrewWithoutReset t

namespace State.Quiet

variable {s t : State}

theorem refl (s : State) : s.Quiet s := ⟨rfl, rfl, rfl, rfl, rfl, rfl, rfl, id, .of_out_eq rfl⟩

theorem setLifecycle (h : s.Quiet t) (l : Lifecycle) : s.Quiet (t.setLifecycle l) := { h with }

theorem setMuted (h : s.Quiet t) (b : Bool) : s.Quiet (t.setMuted b) := { h with }

theorem setIdentified (h : s.Quiet t) (b : Bool) : s.Quiet (t.setIdentified b) := { h with }

theorem setUpdateActive (h : s.Quiet t) (b : Bool) : s.Quiet (t.setUpdateActive b) := { h with }

theorem scheduleStart (h : s.Quiet t) : s.Quiet (t.setForceStart true) := { h with start := fun _ => rfl }

theorem emit (h : s.Quiet t) {a : Action} (ha : a ≠ .reset) : s.Quiet (t.emit a) :=
  { h with out := h.out.append (t.emit_out a) (by simpa using ha.symm) }

theorem pulse (h : s.Quiet t) (k : PulseKind) : s.Quiet (t.pulse k) := h.emit (by simp)

theorem send (h : s.Quiet t) (f : OutFrame) : s.Quiet (t.send f) := h.emit (by simp)

theorem sendHeartbeat (h : s.Quiet t) (c : CommandName) : s.Quiet (t.sendHeartbeat c) := h.send _

theorem sendAll (h : s.Quiet t) (fs : List OutFrame) : s.Quiet (t.sendAll fs) :=
  { h with out := h.out.append (t.sendAll_out fs) (by simp) }

/-- The orphan procedure is quiet (R100). -/
theorem orphan (h : s.Quiet t) : s.Quiet t.orphan := by
  have hpulse : s.Quiet (((t.setMuted false).setIdentified false).pulse .orphaned) :=
    ((h.setMuted false).setIdentified false).pulse .orphaned
  simp only [State.orphan]
  split
  · exact hpulse.setLifecycle .offline
  · exact hpulse

end State.Quiet

/-! ### What an instruction can do -/

/-- All that an instruction can do to a state: nothing, a quiet change, or what the five rows that write more do: `BOOT`
(R180), the tick (R112), the verify and the page CRC while an update is active (R143, R144), and the reboot that resets (R142). -/
inductive ExecEffect : Instr → State → State → Prop
  | idle {i : Instr} {s : State} : ExecEffect i s s
  | quiet {i : Instr} {s t : State} (h : s.Quiet t) : ExecEffect i s t
  | boot {s : State} (cfg : Cfg) : ExecEffect (.boot cfg) s (s.bootWith cfg)
  | tick {s : State} : ExecEffect .tick s s.tickHeartbeat.stepCountdown
  | verify {s : State} (marker : Half) (candidate : Word) (active : s.dev.firmwareUpdateActive = true) :
      ExecEffect (.btSoftwareUpdateVerify marker candidate) s
        ((s.setNewVersion candidate).emit (.fwVerify candidate (forcedOrDiffers s.cfg marker candidate)))
  | pageCrc {s : State} (page : Half) (crc : Word) (active : s.dev.firmwareUpdateActive = true) :
      ExecEffect (.btSoftwareUpdatePageCrc page crc) s (s.storeCrc (crcIndex page) (crcValue crc))
  | reset {s t : State} (marker : Half) (version : Word) (h : s.Quiet t) :
      ExecEffect (.btRebootAll marker version) s t.requestReset

/-- A guarded step has no effect on a halted block (R23), and the effect of its operations on a running one. -/
theorem ExecEffect.of_whileRunning {i : Instr} {s t u : State} (h : whileRunning s u = .next t) (hu : ExecEffect i s u) :
    ExecEffect i s t := by
  obtain ⟨_, ht⟩ | ⟨_, ht⟩ := whileRunning_cases h <;> cases ht
  · exact .idle
  · exact hu

/-- A transfer that goes on has sent its frames, or nothing (R121). -/
theorem ExecEffect.of_transfer {i : Instr} {tag : Byte} {byteCount : Word} {buf : List Byte} {frames : List OutFrame}
    {s t : State} (h : transfer tag byteCount buf frames s = .next t) : ExecEffect i s t := by
  obtain ⟨_, ht⟩ | ⟨_, _, ⟨_, ht⟩ | ⟨_, ht⟩⟩ := transfer_cases h <;> cases ht
  · exact .idle
  · exact .quiet ((State.Quiet.refl s).sendAll frames)

/-- The inversion lemma of `exec`: the one place where its arms are gone through. -/
theorem execEffect_of_exec {i : Instr} {s t : State} (h : exec i s = .next t) : ExecEffect i s t := by
  have same : s.Quiet s := .refl s
  cases i with
  | haltedAny | rxDiscardNat | rxDiscardFrom _ | baOther _ | btOther _ | ucOther _ | fdAny _ | rxUnmatched _
  | fragRefuseState _ _ _ | fragRefuseSize _ _ _ => cases h; exact .idle
  | fragSmall _ _ _ | fragLarge _ _ _ => exact .of_transfer h
  | boot cfg => cases h; exact .boot cfg
  | tick => exact .of_whileRunning h .tick
  | baExtensionOffline | baParkExtension | ucExtensionOffline | ucParkExtension =>
    exact .of_whileRunning h (.quiet same.orphan)
  | baIdentifyUnknownExtensions =>
    refine .of_whileRunning h (.quiet ?_)
    split
    · exact same.setMuted false
    · exact (same.setMuted false).scheduleStart
  | ucIdentify =>
    exact .of_whileRunning h (.quiet
      ((((same.setIdentified true).setMuted false).scheduleStart.setUpdateActive false).pulse .identify))
  | btSoftwareUpdateInit hw marker version =>
    have cleared : s.Quiet (s.setUpdateActive false) := same.setUpdateActive false
    refine .of_whileRunning h (.quiet ?_)
    split
    · split
      · exact (cleared.setUpdateActive true).send _
      · exact cleared.send _
    · exact cleared
  | btRebootAll marker version =>
    have cleared : s.Quiet ((s.setMuted false).setUpdateActive false) := (same.setMuted false).setUpdateActive false
    refine .of_whileRunning h ?_
    split
    · exact .reset marker version cleared
    · exact .quiet cleared
  | btSoftwareUpdateVerify marker candidate =>
    refine .of_whileRunning h ?_
    split
    · next active => exact .verify marker candidate active
    · exact .idle
  | btSoftwareUpdatePageCrc page crc =>
    refine .of_whileRunning h ?_
    split
    · next active => exact .pageCrc page crc active
    · exact .idle
  | btMuteAll => exact .of_whileRunning h (.quiet (same.setMuted true))
  | ucMuteAll => exact .of_whileRunning h (.quiet ((same.setMuted true).pulse .mute))
  | ucAlive => exact .of_whileRunning h (.quiet ((same.sendHeartbeat .aliveReply).pulse .alive))
  | ucAliveReply => exact .of_whileRunning h (.quiet (same.pulse .aliveReply))
  | ucLedFlashPosition _ => exact .of_whileRunning h (.quiet ((same.setLifecycle .online).emit (by simp)))
  | baIdentifyLed | baSyncTicks _ | ucIdentifyLed | fwAny _ =>
    exact .of_whileRunning h (.quiet (same.emit (by simp)))
  | ucLinkDiagnosisRequest _ _ _ | txStartRequest | txAlive | txAliveReply | txLinkDiagnosisReply _ _ _ | txBcAck
  | txBcNak | txFragmentSmallHeader _ _ _ | txFragmentSmallData _ _ _ _ _ _ _ | txFragmentLargeHeader _ _ _
  | txFragmentLargeData _ => exact .of_whileRunning h (.quiet (same.send _))

/-! ### The halt -/

/-- A transfer of a halted block does nothing, whatever its buffer (R23). -/
theorem transfer_halted {tag : Byte} {byteCount : Word} {buf : List Byte} {frames : List OutFrame} {s : State}
    (h : s.dev.halted = true) : transfer tag byteCount buf frames s = .next s := by
  simp [transfer, h]

/-- While the block is halted no instruction but `BOOT` does anything (R23): each is a row without effect, a guarded step or a
transfer. -/
theorem exec_halted {i : Instr} {s : State} (hs : s.dev.halted = true) (hi : ∀ cfg, i ≠ .boot cfg) :
    exec i s = .next s := by
  cases i with
  | boot cfg => exact absurd rfl (hi cfg)
  | haltedAny | rxDiscardNat | rxDiscardFrom _ | baOther _ | btOther _ | ucOther _ | fdAny _ | rxUnmatched _
  | fragRefuseState _ _ _ | fragRefuseSize _ _ _ => rfl
  | fragSmall _ _ _ | fragLarge _ _ _ => exact transfer_halted hs
  | tick | baIdentifyLed | baIdentifyUnknownExtensions | baExtensionOffline | baParkExtension | baSyncTicks _
  | btSoftwareUpdateInit _ _ _ | btRebootAll _ _ | btSoftwareUpdateVerify _ _ | btSoftwareUpdatePageCrc _ _ | btMuteAll
  | ucIdentify | ucIdentifyLed | ucAlive | ucExtensionOffline | ucParkExtension | ucLedFlashPosition _ | ucAliveReply
  | ucLinkDiagnosisRequest _ _ _ | ucMuteAll | fwAny _ | txStartRequest | txAlive | txAliveReply
  | txLinkDiagnosisReply _ _ _ | txBcAck | txBcNak | txFragmentSmallHeader _ _ _ | txFragmentSmallData _ _ _ _ _ _ _
  | txFragmentLargeHeader _ _ _ | txFragmentLargeData _ => exact whileRunning_halted hs

/-- On a halted block every stimulus but `BOOT` selects `HALTED.any` (R23). -/
theorem select_halted {ctx : Context} {st : Stimulus} (hctx : ctx.halted = true) (hst : ∀ cfg, st ≠ .boot cfg) :
    select ctx st = .haltedAny := by
  cases st with
  | boot cfg => exact absurd rfl (hst cfg)
  | tick | rx _ _ | frag _ _ _ => exact if_pos hctx

/-- An instruction either emits no `RESET` or is the reboot that leaves the block halted (R142, R159). -/
theorem ExecEffect.grewWithoutReset_or_halted {i : Instr} {s t : State} (h : ExecEffect i s t) :
    s.GrewWithoutReset t ∨ t.dev.halted = true := by
  cases h with
  | idle => exact .inl (.of_out_eq rfl)
  | quiet hq => exact .inl hq.out
  | boot cfg => exact .inl (.of_out_eq (s.bootWith_out cfg))
  | tick => exact .inl (.tick s)
  | verify => exact .inl ((State.GrewWithoutReset.of_out_eq rfl).append (State.emit_out _ _) (by simp))
  | pageCrc page crc =>
    refine .inl (.of_out_eq ?_)
    obtain ⟨_, hst⟩ | ⟨_, hst⟩ := s.storeCrc_cases (crcIndex page) (crcValue crc) <;> rw [hst]
  | reset => exact .inr (State.requestReset_dev_halted _)

/-- Settles O44: only the reboot emits `RESET`, and it halts; `BOOT` re-creates the record; every other row does nothing on a
halted block, and every other stimulus selects `HALTED.any` there. -/
theorem haltedBlockIgnoresAllButBoot : Obligations.HaltedBlockIgnoresAllButBoot := by
  refine ⟨fun s t i as h hout hreset => ?_, fun s cfg => ⟨_, rfl, rfl⟩, fun s i => exec_halted,
    fun s st rest hhalt hin hst => ?_⟩
  · obtain hgrew | hhalt := (execEffect_of_exec h).grewWithoutReset_or_halted
    · exact absurd hreset (hgrew.reset_not_mem hout)
    · exact hhalt
  · rw [step_cons hin, select_halted hhalt hst]
    rfl

/-! ### The writers of the update record -/

/-- Settles O50: of the effects of an instruction other than `BOOT`, only the verify writes the captured version and only the
bounded store of the page CRC writes the array; both have their gate. -/
theorem updateRecordWriters : Obligations.UpdateRecordWriters := by
  intro i s t hi h
  cases execEffect_of_exec h with
  | idle => exact ⟨absurd rfl, absurd rfl⟩
  | quiet hq => exact ⟨absurd hq.newVersion, absurd hq.crc⟩
  | boot cfg => exact absurd rfl (hi cfg)
  | tick => exact ⟨absurd (by simp), absurd (by simp)⟩
  | verify marker candidate active => exact ⟨fun _ => ⟨active, marker, candidate, rfl⟩, absurd rfl⟩
  | pageCrc page crc active =>
    obtain ⟨hlt, hst⟩ | ⟨_, hst⟩ := s.storeCrc_cases (crcIndex page) (crcValue crc) <;> rw [hst]
    · exact ⟨absurd rfl, fun _ => ⟨active, page, crc, rfl, hlt⟩⟩
    · exact ⟨absurd rfl, absurd rfl⟩
  | reset marker version hq => exact ⟨absurd hq.newVersion, absurd hq.crc⟩

/-! ### The countdown's arithmetic -/

/-- `N` is a multiple of 10 that a 32-bit signed countdown holds with room to spare (R111). -/
theorem rearmInterval_bounds (cfg : Cfg) :
    10 ≤ rearmInterval cfg ∧ rearmInterval cfg ≤ 423000 ∧ rearmInterval cfg % 10 = 0 := by
  have hjitter : (cfg.serial &&& Config.jitterMask).toNat ≤ 63 := by
    rw [BitVec.toNat_and]
    exact Nat.and_le_right
  have hbase : Config.baseSeconds = 360 := rfl
  unfold rearmInterval
  omega

/-- The countdown armed with `N` reads as `N`. -/
theorem rearmValue_toInt (cfg : Cfg) : (rearmValue cfg).toInt = rearmInterval cfg := by
  have hval : (rearmValue cfg).toNat = rearmInterval cfg := BitVec.toNat_ofNatLT ..
  have hbounds := rearmInterval_bounds cfg
  rw [BitVec.toInt_eq_toNat_of_lt (by omega), hval]

/-- One tick off a countdown of at least a tick does not wrap (R112). -/
theorem toInt_sub_tickMs {v : Word} (h : 10 ≤ v.toInt) : (v - BitVec.ofNat 32 Config.tickMs).toInt = v.toInt - 10 := by
  have htick : (BitVec.ofNat 32 Config.tickMs).toInt = 10 := rfl
  have hlt : v.toInt < 2 ^ 31 := BitVec.toInt_lt
  rw [BitVec.toInt_sub, htick]
  exact Int.bmod_eq_of_le (by omega) (by omega)

/-- Between steps 2 and 3 of a tick the countdown is a multiple of 10 from 10 to `N` (R112, R115): just re-armed, or not yet
expired. That it is written, and no free value is drawn, is R117: else a start would be pending. -/
theorem State.tickHeartbeat_countdown {s : State} (h : s.timerInv) :
    10 ≤ s.tickHeartbeat.dev.countdown.bits.toInt ∧ s.tickHeartbeat.dev.countdown.bits.toInt ≤ rearmInterval s.cfg ∧
      s.tickHeartbeat.dev.countdown.bits.toInt % 10 = 0 := by
  obtain ⟨hrange, hpending⟩ := h
  have hN := rearmInterval_bounds s.cfg
  obtain ⟨_, ht⟩ | ⟨_, _, ht⟩ | ⟨hno, hpos, ht⟩ := s.tickHeartbeat_cases
  · simp only [ht, sendHeartbeat_dev, rearm_dev_countdown, setForceStart_cfg, Reg32.holding_bits, rearmValue_toInt]
    omega
  · simp only [ht, sendHeartbeat_dev, rearm_dev_countdown, settleCountdown_cfg, Reg32.holding_bits, rearmValue_toInt]
    omega
  · have hwritten : s.dev.countdown.written = true :=
      Bool.eq_true_of_not_eq_false fun hw => by simp [hpending hw] at hno
    rw [settleCountdown_written hwritten] at hpos ht
    obtain ⟨_, hle, hmod⟩ := hrange hwritten
    rw [ht]
    omega

/-- A tick leaves the countdown written, in its range and a multiple of 10 (R115). -/
theorem State.tick_timerInv {s : State} (h : s.timerInv) : s.tickHeartbeat.stepCountdown.timerInv := by
  obtain ⟨hge, hle, hmod⟩ := State.tickHeartbeat_countdown h
  refine ⟨fun _ => ?_, fun hw => by simp at hw⟩
  simp only [stepCountdown_dev_countdown, stepCountdown_cfg, tickHeartbeat_cfg, Reg32.holding_bits,
    toInt_sub_tickMs hge]
  omega

/-! ### The invariant -/

/-- A quiet change keeps the invariant: it speaks of nothing that such a change writes but of a pending start. -/
theorem State.Quiet.inv {s t : State} (h : s.Quiet t) (hs : s.Inv) : t.Inv := by
  obtain ⟨⟨hrange, hpending⟩, hcrc, hunwritten⟩ := hs
  unfold State.Inv State.timerInv State.crcInv State.unwrittenInv
  rw [h.cfg, h.countdown, h.newVersion, h.crc]
  exact ⟨⟨hrange, fun hw => h.start (hpending hw)⟩, hcrc, hunwritten⟩

/-- The record that `BOOT` creates meets the invariant (R180). -/
theorem State.bootWith_inv (s : State) (cfg : Cfg) : (s.bootWith cfg).Inv :=
  ⟨⟨fun hw => by simp [Device.atBoot] at hw, fun _ => rfl⟩, ⟨.nil, fun _ he => absurd he List.not_mem_nil⟩,
    ⟨fun _ => rfl, fun _ => rfl⟩⟩

/-- A tick keeps the invariant: the timer's part by its arithmetic, the other registers are left alone. -/
theorem State.tick_inv {s : State} (h : s.Inv) : s.tickHeartbeat.stepCountdown.Inv := by
  obtain ⟨htimer, hcrc, _, hversion⟩ := h
  exact ⟨State.tick_timerInv htimer, by simpa [State.crcInv] using hcrc, fun hw => by simp at hw, by simpa using hversion⟩

/-- The bounded store at a 16-bit index keeps the invariant (R34, R144). -/
theorem State.storeCrc_inv {s : State} (page : Half) (v : BitVec Config.crcWidth) (h : s.Inv) :
    (s.storeCrc (crcIndex page) v).Inv := by
  obtain ⟨htimer, hcrc, hunwritten⟩ := h
  have hstored : (s.storeCrc (crcIndex page) v).crcInv := s.storeCrc_crcInv _ v page.isLt hcrc
  obtain ⟨_, hst⟩ | ⟨_, hst⟩ := s.storeCrc_cases (crcIndex page) v <;> rw [hst] at hstored ⊢ <;>
    exact ⟨htimer, hstored, hunwritten⟩

/-- Every instruction keeps the invariant. -/
theorem exec_inv {i : Instr} {s t : State} (hs : s.Inv) (h : exec i s = .next t) : t.Inv := by
  cases execEffect_of_exec h with
  | idle => exact hs
  | quiet hq => exact hq.inv hs
  | boot cfg => exact s.bootWith_inv cfg
  | tick => exact State.tick_inv hs
  | verify =>
    obtain ⟨htimer, hcrc, hcountdown, _⟩ := hs
    exact ⟨htimer, hcrc, hcountdown, fun hw => by simp at hw⟩
  | pageCrc page crc => exact State.storeCrc_inv page (crcValue crc) hs
  | reset _ _ hq => exact hq.inv hs

/-- Settles O54: a step is idle or runs an instruction on the state with a shorter schedule, of which the invariant does not
speak. -/
theorem stepKeepsInvariant : Obligations.StepKeepsInvariant := by
  intro s t hs h
  obtain ⟨_, ht⟩ | ⟨st, rest, _, ht⟩ := step_cases h
  · cases ht
    exact hs
  · exact exec_inv (s := { s with inbox := rest }) hs ht.symm

end Sys2Proof.Machine
end

section
/-! The buffer of a fragmentation request (spec/20_memory.md R33): a buffer too short is refused by name, and of any other only
the first `byteCount` bytes matter. The equations of the two transfer rows and the frame lists' dependence on `buf.take len` serve
later proofs as well. -/

namespace Sys2Proof.Machine

/-! ### The transfer rows -/

/-- FRAG.small is a transfer of the small tier's frames (R125). -/
theorem exec_fragSmall (tag : Byte) (n : Word) (buf : List Byte) (s : State) :
    exec (.fragSmall tag n buf) s = transfer tag n buf (smallFrames s.cfg tag n.toNat buf) s := rfl

/-- FRAG.large is a transfer of the large tier's frames (R126). -/
theorem exec_fragLarge (tag : Byte) (n : Word) (buf : List Byte) (s : State) :
    exec (.fragLarge tag n buf) s = transfer tag n buf (largeFrames s.cfg tag n.toNat buf) s := rfl

/-- A transfer that passes the gate with a short buffer is refused (R33, D27), whatever frames it would have sent. -/
theorem transfer_short {tag : Byte} {n : Word} {buf : List Byte} {frames : List OutFrame} {s : State}
    (hr : s.dev.halted = false) (hg : s.dev.state = .online ∨ tag = s.cfg.tagExtPageCrc) (hb : buf.length < n.toNat) :
    transfer tag n buf frames s = .refused .shortBuffer := by
  obtain ⟨hclosed, _⟩ | ⟨_, _, ⟨hfull, _⟩ | ⟨_, ho⟩⟩ := transfer_cases (rfl : transfer tag n buf frames s = _)
  · exact absurd hg (by simpa [hr] using hclosed)
  · exact absurd hfull (not_le.2 hb)
  · exact ho

/-- Of the buffer itself a transfer consults only whether it holds the request. -/
theorem transfer_congr_buffer {n : Word} {buf buf' : List Byte} (hb : n.toNat ≤ buf.length) (hb' : n.toNat ≤ buf'.length)
    (tag : Byte) (frames : List OutFrame) (s : State) : transfer tag n buf frames s = transfer tag n buf' frames s := by
  have h : bufferHolds buf n = bufferHolds buf' n := by
    rw [(bufferHolds_iff buf n).2 hb, (bufferHolds_iff buf' n).2 hb']
  rw [transfer, transfer, h]

/-- Settles O36: both rows are transfers, and the gate lets them through with a short buffer. -/
theorem shortBufferRefused : Obligations.ShortBufferRefused := by
  intro s tag n buf hr hg hb
  rw [exec_fragSmall, exec_fragLarge]
  exact ⟨transfer_short hr hg hb, transfer_short hr hg hb⟩

/-! ### The frames of a transfer and the bytes above its length -/

/-- The running sum stops at the length (R123). -/
theorem checksum_take (buf : List Byte) (len : Nat) : checksum (buf.take len) len = checksum buf len := by
  rw [checksum, checksum, List.take_take, min_self]

/-- A data byte below the bound of R55 and R57 stands below the length; above the bound it is the pad. -/
theorem fragmentByte_take (cfg : Cfg) (len : Nat) (buf : List Byte) (width off j : Nat) :
    fragmentByte cfg len (buf.take len) width off j = fragmentByte cfg len buf width off j := by
  unfold fragmentByte
  split
  · next hj =>
    have hlt : j < len - off := (lt_min_iff.1 hj).2
    rw [List.drop_take, List.getD_eq_getElem?_getD, List.getElem?_take_of_lt hlt, List.getD_eq_getElem?_getD]
  · rfl

theorem smallFrames_take (cfg : Cfg) (tag : Byte) (len : Nat) (buf : List Byte) :
    smallFrames cfg tag len (buf.take len) = smallFrames cfg tag len buf := by
  simp only [smallFrames, smallFragment, checksum_take, fragmentByte_take]

theorem largeFrames_take (cfg : Cfg) (tag : Byte) (len : Nat) (buf : List Byte) :
    largeFrames cfg tag len (buf.take len) = largeFrames cfg tag len buf := by
  simp only [largeFrames, largeFragment, checksum_take, fragmentByte_take]

/-- Settles O37: both buffers pass the same test, and each tier's frames are those of the common prefix. -/
theorem onlyRequestedBytesRead : Obligations.OnlyRequestedBytesRead := by
  intro s tag n buf buf' hb hb' htake
  have hsmall : smallFrames s.cfg tag n.toNat buf = smallFrames s.cfg tag n.toNat buf' := by
    rw [← smallFrames_take, htake, smallFrames_take]
  have hlarge : largeFrames s.cfg tag n.toNat buf = largeFrames s.cfg tag n.toNat buf' := by
    rw [← largeFrames_take, htake, largeFrames_take]
  rw [exec_fragSmall, exec_fragSmall, exec_fragLarge, exec_fragLarge, hsmall, hlarge]
  exact ⟨transfer_congr_buffer hb hb' .., transfer_congr_buffer hb hb' ..⟩

end Sys2Proof.Machine
end

section
/-! The row of an inbound frame whose command no handler lists (spec/30_encoding.md R60, spec/40_dispatcher.md R74): routing by
category, then the default arm. -/

namespace Sys2Proof.Machine

/-! ### Routing by category -/

/-- Discard comes first (R71): a frame that passes is no NAT frame. -/
theorem isNat_of_not_discards {f : RxFrame} (hf : discards f = false) : f.isNat = false := by
  unfold discards at hf
  exact (Bool.or_eq_false_iff.1 hf).1

section

variable {ctx : Context} {f : RxFrame}

theorem select_rx_ba (e : ErrCounts) (hrun : ctx.halted = false) (hf : discards f = false)
    (hc : classify ctx.cfg f.ident = some .ba) : select ctx (.rx f e) = selectBa ctx.cfg.cc f := by
  simp [select, selectRx, hrun, isNat_of_not_discards hf, hf, hc]

theorem select_rx_bt (e : ErrCounts) (hrun : ctx.halted = false) (hf : discards f = false)
    (hc : classify ctx.cfg f.ident = some .bt) : select ctx (.rx f e) = selectBt ctx.cfg.cc f := by
  simp [select, selectRx, hrun, isNat_of_not_discards hf, hf, hc]

theorem select_rx_uc (e : ErrCounts) (hrun : ctx.halted = false) (hf : discards f = false)
    (hc : classify ctx.cfg f.ident = some .uc) : select ctx (.rx f e) = selectUc ctx.cfg.cc f e := by
  simp [select, selectRx, hrun, isNat_of_not_discards hf, hf, hc]

end

/-! ### The default arms -/

/-- A command finds no listed name exactly when it is the code of none; `CC` need not be injective for this (log 12). -/
theorem nameAmong_eq_none_iff {cc : CommandCodes} {names : List CommandName} {cmd : Byte} :
    nameAmong cc names cmd = none ↔ ∀ n ∈ names, cmd ≠ cc.code n := by
  simp only [nameAmong, List.find?_eq_none, beq_iff_eq, ne_eq, eq_comm (a := cmd)]

theorem selectBa_unlisted {cc : CommandCodes} {f : RxFrame} (h : ∀ n ∈ baNames, f.cmd ≠ cc.code n) :
    selectBa cc f = .baOther f.cmd := by
  rw [selectBa, nameAmong_eq_none_iff.2 h]

theorem selectBt_unlisted {cc : CommandCodes} {f : RxFrame} (h : ∀ n ∈ btNames, f.cmd ≠ cc.code n) :
    selectBt cc f = .btOther f.cmd := by
  rw [selectBt, nameAmong_eq_none_iff.2 h]

theorem selectUc_unlisted {cc : CommandCodes} {f : RxFrame} (h : ∀ n ∈ ucNames, f.cmd ≠ cc.code n) (e : ErrCounts) :
    selectUc cc f e = .ucOther f.cmd := by
  rw [selectUc, nameAmong_eq_none_iff.2 h]

/-- Settles O18: the category routes the frame to its handler, whose search finds no listed name; the default arm's meaning is the
state it is given. -/
theorem unlistedOpcodesDoNothing : Obligations.UnlistedOpcodesDoNothing := by
  refine ⟨fun ctx f e hrun hf => ⟨fun hc hcmd => ?_, fun hc hcmd => ?_, fun hc hcmd => ?_⟩, fun s c => ⟨rfl, rfl, rfl⟩⟩
  · rw [select_rx_ba e hrun hf hc, selectBa_unlisted hcmd]
  · rw [select_rx_bt e hrun hf hc, selectBt_unlisted hcmd]
  · rw [select_rx_uc e hrun hf hc, selectUc_unlisted hcmd]

end Sys2Proof.Machine
end

section
/-! The addressing of the frames the block sends (spec/30_encoding.md R50): every outbound format is built by `mkpayload`, and every
instruction's output grows by such frames and by actions that are no frames. -/

namespace Sys2Proof.Machine

/-! ### Own frames -/

/-- The frame has the addressing that R50 gives every frame this block sends. -/
def IsOwnFrame (cfg : Cfg) (f : OutFrame) : Prop :=
  f.ident = cfg.serial.extractLsb' 0 29 ∧ f.dir = .fromDevice ∧ f.cmddir = cfg.txCmddir

/-- `mkpayload` builds own frames, and with it every format of R51 to R57. -/
theorem mkpayload_isOwnFrame (cfg : Cfg) (c : CommandName) (p : Payload) : IsOwnFrame cfg (mkpayload cfg c p) :=
  have hident : cfg.serial.setWidth 29 = cfg.serial.extractLsb' 0 29 := BitVec.setWidth_eq_extractLsb' (by decide)
  ⟨hident, rfl, rfl⟩

/-- A header and fragments that are own frames make a list of own frames. -/
theorem isOwnFrame_of_mem_cons_map {cfg : Cfg} {header f : OutFrame} {fragment : Nat → OutFrame} {ks : List Nat}
    (hheader : IsOwnFrame cfg header) (hfragment : ∀ k, IsOwnFrame cfg (fragment k))
    (hf : f ∈ header :: ks.map fragment) : IsOwnFrame cfg f := by
  obtain rfl | hdata := List.mem_cons.1 hf
  · exact hheader
  · obtain ⟨k, _, rfl⟩ := List.mem_map.1 hdata
    exact hfragment k

theorem smallFrames_isOwnFrame {cfg : Cfg} {tag : Byte} {len : Nat} {buf : List Byte} :
    ∀ f ∈ smallFrames cfg tag len buf, IsOwnFrame cfg f :=
  fun _ => isOwnFrame_of_mem_cons_map (mkpayload_isOwnFrame ..) (fun _ => mkpayload_isOwnFrame ..)

theorem largeFrames_isOwnFrame {cfg : Cfg} {tag : Byte} {len : Nat} {buf : List Byte} :
    ∀ f ∈ largeFrames cfg tag len buf, IsOwnFrame cfg f :=
  fun _ => isOwnFrame_of_mem_cons_map (mkpayload_isOwnFrame ..) (fun _ => mkpayload_isOwnFrame ..)

/-! ### Output whose frames are own frames -/

/-- The output grew by actions whose frames, if any, are own frames of the configuration of `s`. -/
def State.SentOwn (s t : State) : Prop :=
  ∃ as : List Action, t.out = s.out ++ as ∧ ∀ f, Action.tx f ∈ as → IsOwnFrame s.cfg f

namespace State.SentOwn

variable {s t u : State}

theorem of_out_eq (h : t.out = s.out) : s.SentOwn t := ⟨[], by simp [h], by simp⟩

/-- The output grew by one action that is no frame. -/
theorem of_emit {a : Action} (h : t.out = s.out ++ [a]) (ha : ∀ f, a ≠ .tx f) : s.SentOwn t :=
  ⟨[a], h, fun f hf => absurd (List.mem_singleton.1 hf).symm (ha f)⟩

/-- The output grew by frames, all of them own frames. -/
theorem of_sendAll {fs : List OutFrame} (h : t.out = s.out ++ fs.map .tx) (hfs : ∀ f ∈ fs, IsOwnFrame s.cfg f) :
    s.SentOwn t :=
  ⟨fs.map .tx, h, fun f hf => hfs f (by simpa using hf)⟩

/-- The output grew by one frame that `mkpayload` built. -/
theorem of_send {c : CommandName} {p : Payload} (h : t.out = s.out ++ [.tx (mkpayload s.cfg c p)]) : s.SentOwn t :=
  of_sendAll (fs := [mkpayload s.cfg c p]) h (by simp [mkpayload_isOwnFrame])

theorem trans (hst : s.SentOwn t) (htu : t.SentOwn u) (hcfg : t.cfg = s.cfg) : s.SentOwn u := by
  obtain ⟨as, has, hown⟩ := hst
  obtain ⟨bs, hbs, hown'⟩ := htu
  refine ⟨as ++ bs, by rw [hbs, has, List.append_assoc], fun f hf => ?_⟩
  obtain hf | hf := List.mem_append.1 hf
  · exact hown f hf
  · exact hcfg ▸ hown' f hf

/-- The orphan procedure sends no frame (R100). -/
theorem orphan (s : State) : s.SentOwn s.orphan := by
  rw [State.orphan_eq]
  exact of_emit rfl (by simp)

/-- A tick sends a heartbeat or nothing (R112). -/
theorem tick (s : State) : s.SentOwn s.tickHeartbeat.stepCountdown := by
  obtain ⟨_, h⟩ | ⟨_, _, h⟩ | ⟨_, _, h⟩ := s.tickHeartbeat_cases
  · exact of_send (c := .startRequest) (p := heartbeatPayload s.cfg) (by simp [h, heartbeatFrame])
  · exact of_send (c := .alive) (p := heartbeatPayload s.cfg) (by simp [h, heartbeatFrame])
  · exact of_out_eq (by simp [h])

/-- The bounded store sends no frame (R34). -/
theorem storeCrc (s : State) (i : Nat) (v : BitVec Config.crcWidth) : s.SentOwn (s.storeCrc i v) := by
  obtain ⟨_, h⟩ | ⟨_, h⟩ := s.storeCrc_cases i v <;> rw [h] <;> exact of_out_eq rfl

/-- A guarded step sends nothing on a halted block, and what its operations send on a running one. -/
theorem of_whileRunning (h : whileRunning s u = .next t) (hu : s.SentOwn u) : s.SentOwn t := by
  obtain ⟨_, ht⟩ | ⟨_, ht⟩ := whileRunning_cases h <;> cases ht
  · exact of_out_eq rfl
  · exact hu

/-- A transfer that goes on has sent its frames, or nothing (R121). -/
theorem of_transfer {tag : Byte} {byteCount : Word} {buf : List Byte} {frames : List OutFrame}
    (h : transfer tag byteCount buf frames s = .next t) (hown : ∀ f ∈ frames, IsOwnFrame s.cfg f) : s.SentOwn t := by
  obtain ⟨_, ht⟩ | ⟨_, _, ⟨_, ht⟩ | ⟨_, ht⟩⟩ := transfer_cases h <;> cases ht
  · exact of_out_eq rfl
  · exact of_sendAll (s.sendAll_out frames) hown

end State.SentOwn

/-! ### Every instruction -/

/-- What an instruction sends are own frames: a row emits nothing, emits an action that is no frame, sends a frame that `mkpayload`
built, or is a transfer. -/
theorem exec_sentOwn {i : Instr} {s t : State} (h : exec i s = .next t) : s.SentOwn t := by
  cases i with
  | haltedAny | rxDiscardNat | rxDiscardFrom _ | baOther _ | btOther _ | ucOther _ | fdAny _ | rxUnmatched _
  | fragRefuseState _ _ _ | fragRefuseSize _ _ _ | boot _ => cases h; exact .of_out_eq rfl
  | fragSmall _ _ _ => exact .of_transfer h smallFrames_isOwnFrame
  | fragLarge _ _ _ => exact .of_transfer h largeFrames_isOwnFrame
  | tick => exact .of_whileRunning h (.tick s)
  | baExtensionOffline | baParkExtension | ucExtensionOffline | ucParkExtension => exact .of_whileRunning h (.orphan s)
  | baIdentifyUnknownExtensions => exact .of_whileRunning h (.of_out_eq (by split <;> rfl))
  | btSoftwareUpdateInit hw marker version =>
    refine .of_whileRunning h ?_
    split
    · split
      · exact .of_send rfl
      · exact .of_send rfl
    · exact .of_out_eq rfl
  | btRebootAll marker version =>
    refine .of_whileRunning h ?_
    split
    · exact .of_emit rfl (by simp)
    · exact .of_out_eq rfl
  | btSoftwareUpdateVerify marker candidate =>
    refine .of_whileRunning h ?_
    split
    · exact .of_emit rfl (by simp)
    · exact .of_out_eq rfl
  | btSoftwareUpdatePageCrc page crc =>
    refine .of_whileRunning h ?_
    split
    · exact .storeCrc s _ _
    · exact .of_out_eq rfl
  | btMuteAll => exact .of_whileRunning h (.of_out_eq rfl)
  | ucAlive =>
    have hreply : s.SentOwn (s.sendHeartbeat .aliveReply) := .of_send rfl
    exact .of_whileRunning h (hreply.trans (.of_emit rfl (by simp)) rfl)
  | baIdentifyLed | baSyncTicks _ | ucIdentify | ucIdentifyLed | ucLedFlashPosition _ | ucAliveReply | ucMuteAll
  | fwAny _ => exact .of_whileRunning h (.of_emit rfl (by simp))
  | ucLinkDiagnosisRequest _ _ _ | txStartRequest | txAlive | txAliveReply | txLinkDiagnosisReply _ _ _ | txBcAck
  | txBcNak | txFragmentSmallHeader _ _ _ | txFragmentSmallData _ _ _ _ _ _ _ | txFragmentLargeHeader _ _ _
  | txFragmentLargeData _ => exact .of_whileRunning h (.of_send rfl)

/-- Settles O41: the claim is `exec_sentOwn` for the instruction. -/
theorem everyFrameSentIsOwn : Obligations.EveryFrameSentIsOwn :=
  fun _ _ _ => exec_sentOwn

end Sys2Proof.Machine
end

section
/-! The dispatcher (spec/40_dispatcher.md R71 to R78, R80): which frames are discarded, the row of every category, and what the
step leaves of a frame that no row acts on. The rows of categories BA, BT and UC and their default arms are dealt with above. -/

namespace Sys2Proof.Machine

/-! ### The discard -/

/-- The frames that R71 discards. -/
theorem discards_eq_true_iff {f : RxFrame} :
    discards f = true ↔ f.isNat = true ∨ (f.ident ≠ 0#29 ∧ f.dir = .fromDevice) := by
  simp [discards]

/-- The frames that R71 lets through. -/
theorem discards_eq_false_iff {f : RxFrame} :
    discards f = false ↔ f.isNat = false ∧ (f.ident = 0#29 ∨ f.dir = .toDevice) := by
  have hdir : f.dir = .toDevice ↔ ¬ f.dir = .fromDevice := by cases f.dir <;> simp
  rw [← Bool.not_eq_true, discards_eq_true_iff, hdir]
  simp [imp_iff_not_or]

/-- The rows that stand for a discarded frame (R71). -/
def IsDiscardRow (i : Instr) : Prop := i = .rxDiscardNat ∨ ∃ x, i = .rxDiscardFrom x

theorem not_isDiscardRow_iff {i : Instr} : ¬ IsDiscardRow i ↔ i ≠ .rxDiscardNat ∧ ∀ x, i ≠ .rxDiscardFrom x := by
  rw [IsDiscardRow, not_or, not_exists]

theorem selectBa_not_isDiscardRow (cc : CommandCodes) (f : RxFrame) : ¬ IsDiscardRow (selectBa cc f) := by
  unfold selectBa
  split <;> simp [IsDiscardRow]

theorem selectBt_not_isDiscardRow (cc : CommandCodes) (f : RxFrame) : ¬ IsDiscardRow (selectBt cc f) := by
  unfold selectBt
  split <;> simp [IsDiscardRow]

theorem selectUc_not_isDiscardRow (cc : CommandCodes) (f : RxFrame) (e : ErrCounts) :
    ¬ IsDiscardRow (selectUc cc f e) := by
  unfold selectUc
  split <;> simp [IsDiscardRow]

/-! ### The row of an inbound frame -/

/-- No form of R49 holds, so there is no category (R72). -/
theorem classify_eq_none {cfg : Cfg} {ident : Ident} (hba : idWord ident ≠ 0#32) (hbt : idWord ident ≠ btComparand cfg)
    (huc : idWord ident ≠ ucComparand cfg) (hfd : idWord ident ≠ cfg.serial)
    (hfw : idWord ident &&& 0x1FFF0000#32 ≠ fwComparand cfg) : classify cfg ident = none := by
  rw [classify, if_neg hba, if_neg hbt, if_neg huc, if_neg hfd, if_neg hfw]

section

variable {ctx : Context} {f : RxFrame}

theorem select_rx_discarded (e : ErrCounts) (hrun : ctx.halted = false) (hf : discards f = true) :
    select ctx (.rx f e) = if f.isNat then .rxDiscardNat else .rxDiscardFrom f.ident := by
  simp [select, selectRx, hrun, hf]

theorem select_rx_fd (e : ErrCounts) (hrun : ctx.halted = false) (hf : discards f = false)
    (hc : classify ctx.cfg f.ident = some .fd) : select ctx (.rx f e) = .fdAny f.cmd := by
  simp [select, selectRx, hrun, isNat_of_not_discards hf, hf, hc]

theorem select_rx_fw (e : ErrCounts) (hrun : ctx.halted = false) (hf : discards f = false)
    (hc : classify ctx.cfg f.ident = some .fw) : select ctx (.rx f e) = .fwAny f := by
  simp [select, selectRx, hrun, isNat_of_not_discards hf, hf, hc]

theorem select_rx_unmatched (e : ErrCounts) (hrun : ctx.halted = false) (hf : discards f = false)
    (hc : classify ctx.cfg f.ident = none) : select ctx (.rx f e) = .rxUnmatched f.ident := by
  simp [select, selectRx, hrun, isNat_of_not_discards hf, hf, hc]

/-- A frame that the discard lets through goes to its category's handler, or to none, and no handler answers a discard. -/
theorem select_rx_not_isDiscardRow (e : ErrCounts) (hrun : ctx.halted = false) (hf : discards f = false) :
    ¬ IsDiscardRow (select ctx (.rx f e)) := by
  cases hc : classify ctx.cfg f.ident with
  | none => simp [select_rx_unmatched e hrun hf hc, IsDiscardRow]
  | some c =>
    cases c with
    | ba => rw [select_rx_ba e hrun hf hc]; exact selectBa_not_isDiscardRow _ _
    | bt => rw [select_rx_bt e hrun hf hc]; exact selectBt_not_isDiscardRow _ _
    | uc => rw [select_rx_uc e hrun hf hc]; exact selectUc_not_isDiscardRow _ _ _
    | fd => simp [select_rx_fd e hrun hf hc, IsDiscardRow]
    | fw => simp [select_rx_fw e hrun hf hc, IsDiscardRow]

end

/-- Settles O16: the two kinds of discarded frame select the two rows of R71, whose meaning is the state they are given; a frame
that is let through selects neither. -/
theorem discardPrecedesClassification : Obligations.DiscardPrecedesClassification := by
  refine ⟨fun ctx f e hrun => ⟨fun hnat => ?_, fun hnat hident hdir => ?_, fun hnat hkept => ?_⟩, fun s x => ⟨rfl, rfl⟩⟩
  · rw [select_rx_discarded e hrun (discards_eq_true_iff.2 (.inl hnat)), if_pos hnat]
  · rw [select_rx_discarded e hrun (discards_eq_true_iff.2 (.inr ⟨hident, hdir⟩)), if_neg (by simp [hnat])]
  · exact not_isDiscardRow_iff.1 (select_rx_not_isDiscardRow e hrun (discards_eq_false_iff.2 ⟨hnat, hkept⟩))

/-! ### From-device and firmware-broadcast frames -/

/-- A running block hands a firmware-broadcast frame on and does nothing else (R76). -/
theorem exec_fwAny_running {s : State} (hs : s.dev.halted = false) (f : RxFrame) :
    exec (.fwAny f) s = .next { s with out := s.out ++ [.routeFw f] } :=
  whileRunning_running hs

/-- Settles O19: each category has one row, and the meaning of the firmware row is the hand-over. -/
theorem fromDeviceIgnoredFirmwareRouted : Obligations.FromDeviceIgnoredFirmwareRouted :=
  ⟨fun _ _ e hrun hf => ⟨select_rx_fd e hrun hf, select_rx_fw e hrun hf⟩,
    fun _ _ f hs => ⟨rfl, exec_fwAny_running hs f⟩⟩

/-! ### Frames that no row acts on -/

/-- On a running block a discarded frame does nothing (R71). -/
theorem exec_select_discarded {ctx : Context} {f : RxFrame} (e : ErrCounts) (hrun : ctx.halted = false)
    (hf : discards f = true) (t : State) : exec (select ctx (.rx f e)) t = .next t := by
  rw [select_rx_discarded e hrun hf]
  split <;> rfl

/-- The step for a frame whose row does nothing only takes it off the schedule. The row counts only if the frame is let through,
since a discarded frame does nothing in any case. -/
theorem step_rx_ignored {s : State} {f : RxFrame} {e : ErrCounts} {rest : List Stimulus} (hrun : s.dev.halted = false)
    (hin : s.inbox = .rx f e :: rest)
    (hrow : discards f = false → ∀ t, exec (select s.context (.rx f e)) t = .next t) :
    step s = .next { s with inbox := rest } := by
  rw [step_cons hin]
  cases hf : discards f with
  | true => exact exec_select_discarded (ctx := s.context) e hrun hf _
  | false => exact hrow hf _

/-- Settles O20: the unmatched row, the discard rows, the from-device row and the three default arms do nothing; the firmware row
hands the frame on. -/
theorem foreignFramesLeaveNoTrace : Obligations.ForeignFramesLeaveNoTrace := by
  intro s f e rest hrun hin
  have hctx : s.context.halted = false := hrun
  refine ⟨fun ⟨hba, hbt, huc, hfd, hfw⟩ => ?unmatched, fun hdiscard => ?discarded, fun hc => ?fromDevice,
    fun hc hcmd => ?baOther, fun hc hcmd => ?btOther, fun hc hcmd => ?ucOther, fun hc hnat hdir => ?firmware⟩
  case unmatched =>
    refine step_rx_ignored hrun hin fun hf t => ?_
    have hc : classify s.cfg f.ident = none := classify_eq_none hba hbt huc hfd hfw
    rw [select_rx_unmatched e hctx hf hc]
    rfl
  case discarded =>
    refine step_rx_ignored hrun hin fun hf => ?_
    exact absurd (discards_eq_true_iff.2 hdiscard) (by simp [hf])
  case fromDevice =>
    refine step_rx_ignored hrun hin fun hf t => ?_
    rw [select_rx_fd e hctx hf hc]
    rfl
  case baOther =>
    refine step_rx_ignored hrun hin fun hf t => ?_
    rw [select_rx_ba e hctx hf hc, State.context_cfg, selectBa_unlisted hcmd]
    rfl
  case btOther =>
    refine step_rx_ignored hrun hin fun hf t => ?_
    rw [select_rx_bt e hctx hf hc, State.context_cfg, selectBt_unlisted hcmd]
    rfl
  case ucOther =>
    refine step_rx_ignored hrun hin fun hf t => ?_
    rw [select_rx_uc e hctx hf hc, State.context_cfg, selectUc_unlisted hcmd]
    rfl
  case firmware =>
    have hf : discards f = false := discards_eq_false_iff.2 ⟨hnat, .inr hdir⟩
    rw [step_cons hin, select_rx_fw e hctx hf hc]
    exact exec_fwAny_running (s := { s with inbox := rest }) hrun f

/-! ### What the dispatcher reads -/

/-- The comparands of R49 are made of `SERIAL` and `DEVICE_TYPE`. -/
theorem classify_congr {cfg cfg' : Cfg} (hserial : cfg.serial = cfg'.serial) (htype : cfg.deviceType = cfg'.deviceType)
    (ident : Ident) : classify cfg ident = classify cfg' ident := by
  have hbt : btComparand cfg = btComparand cfg' := by rw [btComparand, btComparand, htype]
  have huc : ucComparand cfg = ucComparand cfg' := by rw [ucComparand, ucComparand, hserial]
  have hfw : fwComparand cfg = fwComparand cfg' := by rw [fwComparand, fwComparand, htype]
  rw [classify, classify, hbt, huc, hserial, hfw]

theorem discards_congr {f f' : RxFrame} (hident : f.ident = f'.ident) (hdir : f.dir = f'.dir)
    (hnat : f.isNat = f'.isNat) : discards f = discards f' := by
  simp only [discards, hident, hdir, hnat]

/-- Of the context an inbound frame's row reads the configuration and the halt. -/
theorem select_rx_congr {ctx ctx' : Context} (hcfg : ctx.cfg = ctx'.cfg) (hhalted : ctx.halted = ctx'.halted) (f : RxFrame)
    (e : ErrCounts) : select ctx (.rx f e) = select ctx' (.rx f e) := by
  simp only [select, hcfg, hhalted]

/-- The command direction makes no difference to the row (R78), unless the row carries the frame itself: it decides neither the
discard nor the category, and no handler reads it. -/
theorem select_rx_cmddir {ctx : Context} {f : RxFrame} (hfw : classify ctx.cfg f.ident ≠ some .fw) (e : ErrCounts)
    (d : BitVec 1) : select ctx (.rx { f with cmddir := d } e) = select ctx (.rx f e) := by
  have hdiscards : discards { f with cmddir := d } = discards f := discards_congr rfl rfl rfl
  cases hrun : ctx.halted with
  | true => rw [select_halted hrun (by simp), select_halted hrun (by simp)]
  | false =>
    cases hf : discards f with
    | true => rw [select_rx_discarded e hrun hf, select_rx_discarded e hrun (hdiscards.trans hf)]
    | false =>
      have hf' := hdiscards.trans hf
      cases hc : classify ctx.cfg f.ident with
      | none => rw [select_rx_unmatched e hrun hf hc, select_rx_unmatched e hrun hf' hc]
      | some c =>
        cases c with
        | ba => rw [select_rx_ba e hrun hf hc, select_rx_ba e hrun hf' hc]; rfl
        | bt => rw [select_rx_bt e hrun hf hc, select_rx_bt e hrun hf' hc]; rfl
        | uc => rw [select_rx_uc e hrun hf hc, select_rx_uc e hrun hf' hc]; rfl
        | fd => rw [select_rx_fd e hrun hf hc, select_rx_fd e hrun hf' hc]
        | fw => exact absurd hc hfw

/-- Settles O21: the two tests read what R78 names, and the row reads neither the state beside the configuration and the halt nor
the command direction. -/
theorem dispatchReadsNoMore : Obligations.DispatchReadsNoMore := by
  refine ⟨fun cfg cfg' ident hserial htype => classify_congr hserial htype ident, fun f f' => discards_congr,
    fun s s' f e d hcfg hhalted hfw => ?_⟩
  calc select s.context (.rx f e)
      = select s.context (.rx { f with cmddir := d } e) := (select_rx_cmddir (ctx := s.context) hfw e d).symm
    _ = select s'.context (.rx { f with cmddir := d } e) :=
        select_rx_congr (ctx := s.context) (ctx' := s'.context) hcfg hhalted _ e

end Sys2Proof.Machine
end

section
/-! The two forms of the classification (spec/40_dispatcher.md R72, R79). A word is cut at the borders of its address fields, and the
fields of the comparands of R49 are read off. -/

namespace Sys2Proof.Machine

/-! ### Fields of a word -/

/-- Two words put together of parts of the same widths agree exactly when their parts do. -/
theorem append_inj_iff {v w : Nat} {a c : BitVec v} {b d : BitVec w} : a ++ b = c ++ d ↔ a = c ∧ b = d := by
  refine ⟨fun h => ⟨?_, ?_⟩, fun ⟨hhigh, hlow⟩ => by rw [hhigh, hlow]⟩
  · simpa [BitVec.extractLsb'_append_eq_left] using congrArg (BitVec.extractLsb' w v) h
  · simpa [BitVec.extractLsb'_append_eq_right] using congrArg (BitVec.extractLsb' 0 w) h

/-- A field is cut into a high and a low field. -/
theorem field_eq_iff_cut {v w : Nat} (x : BitVec v) (y : BitVec w) (start high low : Nat) :
    x.extractLsb' start (high + low) = y.extractLsb' start (high + low) ↔
      x.extractLsb' (start + low) high = y.extractLsb' (start + low) high ∧
        x.extractLsb' start low = y.extractLsb' start low := by
  rw [← BitVec.extractLsb'_append_extractLsb'_eq_extractLsb' rfl,
    ← BitVec.extractLsb'_append_extractLsb'_eq_extractLsb' rfl, append_inj_iff]

section

variable {w start len n : Nat} {x : BitVec w}

/-- A field beyond the width is zero. -/
theorem field_eq_zero_of_ge (hw : w ≤ start) : x.extractLsb' start len = 0#len := by
  ext i hi
  rw [BitVec.getElem_extractLsb', BitVec.getLsbD_of_ge x _ (by omega), BitVec.getElem_zero]

/-- A field at or above the shift is the field that many bits lower. -/
theorem field_shiftLeft_of_le (hn : n ≤ start) (hw : start + len ≤ w) :
    (x <<< n).extractLsb' start len = x.extractLsb' (start - n) len := by
  ext i hi
  have hbit : start + i < w := by omega
  have hshift : ¬ start + i < n := by omega
  have hsub : start + i - n = start - n + i := by omega
  rw [BitVec.getElem_extractLsb', BitVec.getElem_extractLsb', BitVec.getLsbD_shiftLeft, hsub]
  simp [hbit, hshift]

/-- A field below the shift is zero. -/
theorem field_shiftLeft_of_ge (hn : start + len ≤ n) : (x <<< n).extractLsb' start len = 0#len := by
  ext i hi
  have hshift : start + i < n := by omega
  simp [hshift]

end

/-! ### The five forms -/

/-- An identifier as a 32-bit value has the identifier's fields. -/
theorem idWord_field (ident : Ident) {start len : Nat} (h : start + len ≤ 32) :
    (idWord ident).extractLsb' start len = ident.extractLsb' start len :=
  BitVec.extractLsb'_setWidth_of_le h

/-- An identifier as a 32-bit value equals a word exactly when it is the word's low 29 bits and the three above them are zero. -/
theorem idWord_eq_iff (ident : Ident) (x : Word) :
    idWord ident = x ↔ ident = x.extractLsb' 0 29 ∧ x.extractLsb' 29 3 = 0#3 := by
  calc idWord ident = x
      ↔ (idWord ident).extractLsb' 0 (3 + 29) = x.extractLsb' 0 (3 + 29) := by
        rw [BitVec.extractLsb'_eq_self, BitVec.extractLsb'_eq_self]
    _ ↔ ident.extractLsb' 29 3 = x.extractLsb' 29 3 ∧ ident.extractLsb' 0 29 = x.extractLsb' 0 29 := by
        rw [field_eq_iff_cut, idWord_field ident (by decide), idWord_field ident (by decide)]
    _ ↔ ident = x.extractLsb' 0 29 ∧ x.extractLsb' 29 3 = 0#3 := by
        rw [field_eq_zero_of_ge le_rfl, BitVec.extractLsb'_eq_self, and_comm, eq_comm (a := 0#3)]

/-- Form BA (R49). -/
theorem idWord_eq_zero_iff (ident : Ident) : idWord ident = 0#32 ↔ ident = 0#29 := by
  simp [idWord_eq_iff]

/-- An identifier equals a 29-bit field exactly when the parts above and below a border agree. -/
theorem ident_eq_field_iff (ident : Ident) (x : Word) (high low : Nat) (h : high + low = 29) :
    ident = x.extractLsb' 0 29 ↔
      ident.extractLsb' low high = x.extractLsb' low high ∧ ident.extractLsb' 0 low = x.extractLsb' 0 low := by
  have hcut := field_eq_iff_cut ident x 0 high low
  rwa [h, Nat.zero_add, BitVec.extractLsb'_eq_self] at hcut

/-- Form BT (R49, R79): the comparand is `DEVICE_TYPE` in bits 24 to 31. -/
theorem idWord_eq_btComparand_iff (cfg : Cfg) (ident : Ident) :
    idWord ident = btComparand cfg ↔
      ident.extractLsb' 24 5 = cfg.deviceType.extractLsb' 0 5 ∧ ident.extractLsb' 0 24 = 0#24 ∧
        cfg.deviceType.extractLsb' 5 3 = 0#3 := by
  have htype {start len : Nat} (h : 24 ≤ start) (hlen : start + len ≤ 32) :
      (btComparand cfg).extractLsb' start len = cfg.deviceType.extractLsb' (start - 24) len := by
    rw [btComparand, field_shiftLeft_of_le h hlen, BitVec.extractLsb'_setWidth_of_le (by omega)]
  have hlow : (btComparand cfg).extractLsb' 0 24 = 0#24 := field_shiftLeft_of_ge le_rfl
  rw [idWord_eq_iff, ident_eq_field_iff ident _ 5 24 rfl, hlow, htype (by decide) (by decide), htype (by decide) (by decide),
    and_assoc]

/-- Form UC (R49, R79): the comparand is `SERIAL` with bit 28 set. -/
theorem idWord_eq_ucComparand_iff (cfg : Cfg) (ident : Ident) :
    idWord ident = ucComparand cfg ↔
      ident.extractLsb' 28 1 = 1#1 ∧ ident.extractLsb' 0 28 = cfg.serial.extractLsb' 0 28 ∧
        cfg.serial.extractLsb' 29 3 = 0#3 := by
  have htop : (ucComparand cfg).extractLsb' 29 3 = cfg.serial.extractLsb' 29 3 := by
    simp [ucComparand, BitVec.extractLsb'_or]
  have hflag : (ucComparand cfg).extractLsb' 28 1 = 1#1 := by
    rw [ucComparand, BitVec.extractLsb'_or]
    exact BitVec.or_allOnes
  have hlow : (ucComparand cfg).extractLsb' 0 28 = cfg.serial.extractLsb' 0 28 := by
    simp [ucComparand, BitVec.extractLsb'_or]
  rw [idWord_eq_iff, ident_eq_field_iff ident _ 1 28 rfl, htop, hflag, hlow, and_assoc]

/-- The mask of form FW keeps the bits 16 to 28 and clears the others. -/
theorem idWord_masked_eq_iff (ident : Ident) {x : Word} (htop : x.extractLsb' 29 3 = 0#3) (hlow : x.extractLsb' 0 16 = 0#16) :
    idWord ident &&& 0x1FFF0000#32 = x ↔ ident.extractLsb' 16 13 = x.extractLsb' 16 13 := by
  have hmaskTop : (idWord ident &&& 0x1FFF0000#32).extractLsb' 29 3 = 0#3 := by simp [BitVec.extractLsb'_and]
  have hmaskLow : (idWord ident &&& 0x1FFF0000#32).extractLsb' 0 16 = 0#16 := by simp [BitVec.extractLsb'_and]
  have hmask : (idWord ident &&& 0x1FFF0000#32).extractLsb' 16 13 = ident.extractLsb' 16 13 := by
    rw [BitVec.extractLsb'_and, idWord_field ident (by decide)]
    exact BitVec.and_allOnes
  calc idWord ident &&& 0x1FFF0000#32 = x
      ↔ (idWord ident &&& 0x1FFF0000#32).extractLsb' 0 (3 + (13 + 16)) = x.extractLsb' 0 (3 + (13 + 16)) := by
        rw [BitVec.extractLsb'_eq_self, BitVec.extractLsb'_eq_self]
    _ ↔ ident.extractLsb' 16 13 = x.extractLsb' 16 13 := by
        rw [field_eq_iff_cut, field_eq_iff_cut, hmaskTop, hmaskLow, hmask, htop, hlow]
        simp

/-- Form FW (R49, R79): within the mask the comparand is `0x1F` above `DEVICE_TYPE`. -/
theorem idWord_masked_eq_fwComparand_iff (cfg : Cfg) (ident : Ident) :
    idWord ident &&& 0x1FFF0000#32 = fwComparand cfg ↔
      ident.extractLsb' 28 1 = 1#1 ∧ ident.extractLsb' 24 4 = 0xF#4 ∧ ident.extractLsb' 16 8 = cfg.deviceType := by
  have htop : (fwComparand cfg).extractLsb' 29 3 = 0#3 := by
    rw [fwComparand, BitVec.extractLsb'_or, field_shiftLeft_of_le (by decide) (by decide),
      BitVec.extractLsb'_setWidth_of_le (by decide), field_eq_zero_of_ge (by decide)]
    simp
  have hflag : (fwComparand cfg).extractLsb' 28 1 = 1#1 := by
    rw [fwComparand, BitVec.extractLsb'_or]
    exact BitVec.or_allOnes
  have hones : (fwComparand cfg).extractLsb' 24 4 = 0xF#4 := by
    rw [fwComparand, BitVec.extractLsb'_or]
    exact BitVec.or_allOnes
  have htype : (fwComparand cfg).extractLsb' 16 8 = cfg.deviceType := by
    rw [fwComparand, BitVec.extractLsb'_or, field_shiftLeft_of_le (by decide) (by decide),
      BitVec.extractLsb'_setWidth_of_le (by decide)]
    simp
  have hlow : (fwComparand cfg).extractLsb' 0 16 = 0#16 := by
    rw [fwComparand, BitVec.extractLsb'_or, field_shiftLeft_of_ge (by decide)]
    simp
  rw [idWord_masked_eq_iff ident htop hlow, field_eq_iff_cut ident _ 16 1 12, field_eq_iff_cut ident _ 16 4 8, hflag, hones,
    htype]

/-! ### The classification -/

theorem classify_eq_classifyByFields (cfg : Cfg) (ident : Ident) : classify cfg ident = classifyByFields cfg ident :=
  if_congr (idWord_eq_zero_iff ident) rfl <|
    if_congr (idWord_eq_btComparand_iff cfg ident) rfl <|
      if_congr (idWord_eq_ucComparand_iff cfg ident) rfl <|
        if_congr (idWord_eq_iff ident cfg.serial) rfl <|
          if_congr (idWord_masked_eq_fwComparand_iff cfg ident) rfl rfl

/-- Settles O17: form by form, and the two tests try the same forms in the same order. -/
theorem fieldExtractionClassifiesAlike : Obligations.FieldExtractionClassifiesAlike :=
  fun cfg ident =>
    ⟨classify_eq_classifyByFields cfg ident, idWord_eq_zero_iff ident, idWord_eq_btComparand_iff cfg ident,
      idWord_eq_ucComparand_iff cfg ident, idWord_eq_iff ident cfg.serial, idWord_masked_eq_fwComparand_iff cfg ident⟩

end Sys2Proof.Machine
end

section
/-! `DEV.muted` gates nothing (spec/10_state.md R16, spec/41_lifecycle.md R102): writing it commutes with every operation or is
overwritten by it, so a step from two states that differ in it alone answers two states that do, and so does every run. -/

namespace Sys2Proof.Machine

/-! ### Writing `muted` and the operations that branch -/

/-- Two states differ in `muted` alone when one is the other with `muted` written. -/
theorem sameButMuted_iff {s s' : State} : sameButMuted s s' ↔ ∃ b, s' = s.setMuted b := by
  refine ⟨fun h => ⟨s'.dev.muted, h⟩, fun ⟨b, h⟩ => ?_⟩
  subst h
  rfl

theorem sameButMuted_ite {c : Prop} [Decidable c] {t t' u u' : State} (ht : sameButMuted t t') (hu : sameButMuted u u') :
    sameButMuted (if c then t else u) (if c then t' else u') := by
  split
  · exact ht
  · exact hu

theorem State.storeCrc_setMuted (s : State) (b : Bool) (i : Nat) (v : BitVec Config.crcWidth) :
    (s.setMuted b).storeCrc i v = (s.storeCrc i v).setMuted b := by
  rw [State.storeCrc, State.storeCrc, apply_ite (State.setMuted · b)]
  rfl

/-- The orphan procedure unmutes, whatever `muted` was (R100). -/
theorem State.orphan_setMuted (s : State) (b : Bool) : (s.setMuted b).orphan = s.orphan := by
  rw [State.orphan_eq, State.orphan_eq]
  rfl

theorem State.settleCountdown_setMuted (s : State) (b : Bool) :
    (s.setMuted b).settleCountdown = s.settleCountdown.setMuted b := by
  rw [State.settleCountdown, State.settleCountdown, apply_ite (State.setMuted · b)]
  rfl

theorem State.tickHeartbeat_setMuted (s : State) (b : Bool) :
    (s.setMuted b).tickHeartbeat = s.tickHeartbeat.setMuted b := by
  unfold State.tickHeartbeat
  rw [State.settleCountdown_setMuted, apply_ite (State.setMuted · b), apply_ite (State.setMuted · b)]
  rfl

/-! ### Outcomes -/

/-- Both outcomes stop alike, or both go on to states that differ in `muted` alone. -/
inductive AgreeButMuted : Host.Outcome State Fault Refusal → Host.Outcome State Fault Refusal → Prop
  | next {t t' : State} (h : sameButMuted t t') : AgreeButMuted (.next t) (.next t')
  | fault (r : Fault) : AgreeButMuted (.fault r) (.fault r)
  | refused (r : Refusal) : AgreeButMuted (.refused r) (.refused r)

theorem AgreeButMuted.ite {c : Prop} [Decidable c] {o o' p p' : Host.Outcome State Fault Refusal} (ho : AgreeButMuted o o')
    (hp : AgreeButMuted p p') : AgreeButMuted (if c then o else p) (if c then o' else p') := by
  split
  · exact ho
  · exact hp

/-- The halt that guards a step is not `muted`. -/
theorem AgreeButMuted.whileRunning {s t t' : State} {b : Bool} (h : sameButMuted t t') :
    AgreeButMuted (whileRunning s t) (whileRunning (s.setMuted b) t') :=
  .ite (.next rfl) (.next h)

/-- The gate of a transfer and the test of its buffer do not read `muted` (R121, R33). -/
theorem AgreeButMuted.transfer (tag : Byte) (n : Word) (buf : List Byte) (frames : List OutFrame) (s : State) (b : Bool) :
    AgreeButMuted (transfer tag n buf frames s) (transfer tag n buf frames (s.setMuted b)) :=
  .ite (.next rfl) (.ite (.next rfl) (.refused _))

/-! ### Instructions, steps and runs -/

/-- No instruction reads `muted`: a row has no effect, is a transfer, or is a guarded step whose operations commute with writing
`muted` or overwrite it. -/
theorem exec_agreeButMuted (i : Instr) (s : State) (b : Bool) : AgreeButMuted (exec i s) (exec i (s.setMuted b)) := by
  cases i with
  | haltedAny | rxDiscardNat | rxDiscardFrom _ | baOther _ | btOther _ | ucOther _ | fdAny _ | rxUnmatched _
  | fragRefuseState _ _ _ | fragRefuseSize _ _ _ | boot _ => exact .next rfl
  | fragSmall _ _ _ | fragLarge _ _ _ => exact .transfer ..
  | tick => exact .whileRunning (by rw [State.tickHeartbeat_setMuted]; rfl)
  | baExtensionOffline | baParkExtension | ucExtensionOffline | ucParkExtension =>
    exact .whileRunning (by rw [State.orphan_setMuted])
  | btSoftwareUpdatePageCrc _ _ =>
    exact .whileRunning (sameButMuted_ite (by rw [State.storeCrc_setMuted]; rfl) rfl)
  | btSoftwareUpdateInit _ _ _ => exact .whileRunning (sameButMuted_ite (sameButMuted_ite rfl rfl) rfl)
  | baIdentifyUnknownExtensions | btRebootAll _ _ | btSoftwareUpdateVerify _ _ =>
    exact .whileRunning (sameButMuted_ite rfl rfl)
  | baIdentifyLed | baSyncTicks _ | btMuteAll | ucIdentify | ucIdentifyLed | ucAlive | ucLedFlashPosition _
  | ucAliveReply | ucLinkDiagnosisRequest _ _ _ | ucMuteAll | fwAny _ | txStartRequest | txAlive | txAliveReply
  | txLinkDiagnosisReply _ _ _ | txBcAck | txBcNak | txFragmentSmallHeader _ _ _ | txFragmentSmallData _ _ _ _ _ _ _
  | txFragmentLargeHeader _ _ _ | txFragmentLargeData _ => exact .whileRunning rfl

/-- The same stimulus is accepted, and since selection does not read `muted` either, the same row runs. -/
theorem step_agreeButMuted (s : State) (b : Bool) : AgreeButMuted (step s) (step (s.setMuted b)) := by
  cases hin : s.inbox with
  | nil =>
    rw [step_nil hin, step_nil (s.setMuted_inbox b ▸ hin)]
    exact .next rfl
  | cons st rest =>
    rw [step_cons hin, step_cons (s.setMuted_inbox b ▸ hin)]
    exact exec_agreeButMuted (select s.context st) { s with inbox := rest } b

/-- Runs of any length agree, step by step. -/
theorem State.run_agreeButMuted (k : Nat) {s s' : State} (h : sameButMuted s s') : AgreeButMuted (s.run k) (s'.run k) := by
  induction k generalizing s s' with
  | zero => exact .next h
  | succ k ih =>
    obtain ⟨b, rfl⟩ := sameButMuted_iff.1 h
    have hstep := step_agreeButMuted s b
    generalize hs : step s = o, hs' : step (s.setMuted b) = o' at hstep
    cases hstep with
    | next ht =>
      rw [State.run_succ_next k hs, State.run_succ_next k hs']
      exact ih ht
    | fault r =>
      rw [State.run_succ_fault k hs, State.run_succ_fault k hs']
      exact .fault r
    | refused r =>
      rw [State.run_succ_refused k hs, State.run_succ_refused k hs']
      exact .refused r

/-- Settles O51: the two runs agree, so they go on together or are refused alike. -/
theorem mutedGatesNothing : Obligations.MutedGatesNothing := by
  intro k s s' h
  have hrun := State.run_agreeButMuted k h
  generalize s.run k = o, s'.run k = o' at hrun
  refine ⟨fun t ht => ?_, fun r hr => ?_⟩
  · subst ht
    cases hrun with
    | next hagree => exact ⟨_, rfl, hagree⟩
  · subst hr
    cases hrun
    rfl

end Sys2Proof.Machine
end

section
/-! The five lifecycle bits (spec/41_lifecycle.md R103): what the operations that branch do to them, and the table row of every
instruction. -/

namespace Sys2Proof.Machine

/-! ### The tests of the init (R141, R147) -/

theorem hardwareAccepts_eq (cfg : Cfg) (hw : Byte) : hardwareAccepts cfg hw = decide (hw ≤ cfg.hwVersion) := rfl

theorem forcedOrDiffers_eq (cfg : Cfg) (marker : Half) (version : Word) :
    forcedOrDiffers cfg marker version = (decide (marker = 0xDEAD#16) || decide (version ≠ cfg.fwVersion)) := by
  rw [forcedOrDiffers, forced, differs, Config.forceMarker, beq_eq_decide, bne, beq_eq_decide, decide_not]

/-! ### The operations that branch -/

theorem State.orphan_lifecycleBits (s : State) :
    s.orphan.lifecycleBits =
      { s.lifecycleBits with
        state := if s.cfg.offlineOnPark then .offline else s.dev.state, muted := false, identified := false } := by
  rw [State.orphan_eq]
  rfl

@[simp] theorem State.settleCountdown_lifecycleBits (s : State) : s.settleCountdown.lifecycleBits = s.lifecycleBits := by
  cases h : s.dev.countdown.written
  · rw [State.settleCountdown_unwritten h]
    rfl
  · rw [State.settleCountdown_written h]

/-- A tick leaves no start pending: a pending one is announced, and none is scheduled (R112). -/
theorem State.tickHeartbeat_lifecycleBits (s : State) :
    s.tickHeartbeat.lifecycleBits = { s.lifecycleBits with forceStartPending := false } := by
  obtain ⟨_, h⟩ | ⟨hno, _, h⟩ | ⟨hno, _, h⟩ := s.tickHeartbeat_cases <;> rw [h]
  · rfl
  · calc s.settleCountdown.rearm.lifecycleBits
        = s.lifecycleBits := s.settleCountdown_lifecycleBits
      _ = { s.lifecycleBits with forceStartPending := false } := by rw [← hno]; rfl
  · rw [settleCountdown_lifecycleBits, ← hno]
    rfl

@[simp] theorem State.storeCrc_lifecycleBits (s : State) (i : Nat) (v : BitVec Config.crcWidth) :
    (s.storeCrc i v).lifecycleBits = s.lifecycleBits := by
  obtain ⟨_, h⟩ | ⟨_, h⟩ := s.storeCrc_cases i v <;> rw [h]
  rfl

theorem lifecycleBits_of_transfer {tag : Byte} {n : Word} {buf : List Byte} {frames : List OutFrame} {s t : State}
    (h : transfer tag n buf frames s = .next t) : t.lifecycleBits = s.lifecycleBits := by
  obtain ⟨_, ht⟩ | ⟨_, _, ⟨_, ht⟩ | ⟨_, ht⟩⟩ := transfer_cases h <;> cases ht <;> rfl

/-! ### The table -/

/-- On a running block a guarded step leaves the bits that its operations leave. -/
theorem lifecycleBits_of_whileRunning {s t u : State} {b : LifecycleBits} (hs : s.dev.halted = false)
    (h : whileRunning s u = .next t) (hu : u.lifecycleBits = b) : t.lifecycleBits = b := by
  rw [whileRunning_running hs] at h
  cases h
  exact hu

/-- The table on a running block, row by row. -/
theorem lifecycleBits_of_exec {i : Instr} {s t : State} (hs : s.dev.halted = false) (h : exec i s = .next t) :
    t.lifecycleBits = transitionTable s.cfg s.lifecycleBits i := by
  cases i with
  | haltedAny | rxDiscardNat | rxDiscardFrom _ | baOther _ | btOther _ | ucOther _ | fdAny _ | rxUnmatched _
  | fragRefuseState _ _ _ | fragRefuseSize _ _ _ | boot _ => cases h; rfl
  | fragSmall _ _ _ | fragLarge _ _ _ => exact lifecycleBits_of_transfer h
  | tick => exact lifecycleBits_of_whileRunning hs h s.tickHeartbeat_lifecycleBits
  | baExtensionOffline | baParkExtension | ucExtensionOffline | ucParkExtension =>
    exact lifecycleBits_of_whileRunning hs h s.orphan_lifecycleBits
  | baIdentifyUnknownExtensions =>
    refine lifecycleBits_of_whileRunning hs h ?_
    cases hid : s.dev.identified <;> simp [transitionTable, State.lifecycleBits, hid]
  | btSoftwareUpdateInit hw marker version =>
    refine lifecycleBits_of_whileRunning hs h ?_
    rw [transitionTable, ← hardwareAccepts_eq, ← forcedOrDiffers_eq]
    cases hardwareAccepts s.cfg hw
    · rfl
    · cases forcedOrDiffers s.cfg marker version <;> rfl
  | btRebootAll _ _ => exact lifecycleBits_of_whileRunning hs h (by split <;> rfl)
  | btSoftwareUpdateVerify _ _ => exact lifecycleBits_of_whileRunning hs h (by split <;> rfl)
  | btSoftwareUpdatePageCrc _ _ =>
    exact lifecycleBits_of_whileRunning hs h (by split <;> [exact s.storeCrc_lifecycleBits _ _; rfl])
  | baIdentifyLed | baSyncTicks _ | btMuteAll | ucIdentify | ucIdentifyLed | ucAlive | ucLedFlashPosition _
  | ucAliveReply | ucLinkDiagnosisRequest _ _ _ | ucMuteAll | fwAny _ | txStartRequest | txAlive | txAliveReply
  | txLinkDiagnosisReply _ _ _ | txBcAck | txBcNak | txFragmentSmallHeader _ _ _ | txFragmentSmallData _ _ _ _ _ _ _
  | txFragmentLargeHeader _ _ _ | txFragmentLargeData _ => exact lifecycleBits_of_whileRunning hs h rfl

/-- Settles O47: the table on a running block; `BOOT`, halted or not, re-creates the bits. -/
theorem lifecycleBitsFollowTable : Obligations.LifecycleBitsFollowTable := by
  intro i s t hi h
  obtain hs | ⟨cfg, rfl⟩ := hi
  · exact lifecycleBits_of_exec hs h
  · cases h
    rfl

end Sys2Proof.Machine
end

section
/-! The handlers of broadcast-to-all and unicast (spec/41_lifecycle.md R86 to R100): the selection of a listed opcode, the outbound
frames field by field, and what each row does. The selection and the frames serve later proofs as well. -/

namespace Sys2Proof.Machine

/-! ### Selection of a listed opcode -/

theorem commandName_mem_all (n : CommandName) : n ∈ CommandName.all := by
  cases n <;> decide

/-- Where `CC` is injective a listed name is found by its own code (R74). -/
theorem nameAmong_code {cfg : Cfg} (hinj : codesInjective cfg) {names : List CommandName} {n : CommandName}
    (hn : n ∈ names) : nameAmong cfg.cc names (cfg.cc.code n) = some n := by
  have hcode : ∀ m, cfg.cc.code m = cfg.cc.code n → m = n := fun m h =>
    List.inj_on_of_nodup_map hinj (commandName_mem_all m) (commandName_mem_all n) h
  cases hfind : nameAmong cfg.cc names (cfg.cc.code n) with
  | none => exact absurd rfl (nameAmong_eq_none_iff.1 hfind n hn)
  | some m => rw [hcode m (by simpa using List.find?_some hfind)]

/-- An opcode selects the row that its category's handler gives the opcode's name. -/
theorem opcodeSelects_of_handler {c : Category} {handler : CommandCodes → RxFrame → ErrCounts → Instr}
    {names : List CommandName} {n : CommandName} {row : RxFrame → ErrCounts → Instr}
    (hroute : ∀ {ctx : Context} {f : RxFrame} (e : ErrCounts), ctx.halted = false → discards f = false →
      classify ctx.cfg f.ident = some c → select ctx (.rx f e) = handler ctx.cfg.cc f e)
    (hn : n ∈ names) (hrow : ∀ cc f e, nameAmong cc names f.cmd = some n → handler cc f e = row f e) :
    opcodeSelects c n row := by
  intro ctx f e hrun hinj hf hc hcmd
  rw [hroute e hrun hf hc]
  exact hrow _ f e (hcmd ▸ nameAmong_code hinj hn)

theorem opcodeSelects_ba {n : CommandName} {row : RxFrame → ErrCounts → Instr} (hn : n ∈ baNames)
    (hrow : ∀ cc f e, nameAmong cc baNames f.cmd = some n → selectBa cc f = row f e) : opcodeSelects .ba n row :=
  opcodeSelects_of_handler (handler := fun cc f _ => selectBa cc f) select_rx_ba hn hrow

theorem opcodeSelects_bt {n : CommandName} {row : RxFrame → ErrCounts → Instr} (hn : n ∈ btNames)
    (hrow : ∀ cc f e, nameAmong cc btNames f.cmd = some n → selectBt cc f = row f e) : opcodeSelects .bt n row :=
  opcodeSelects_of_handler (handler := fun cc f _ => selectBt cc f) select_rx_bt hn hrow

theorem opcodeSelects_uc {n : CommandName} {row : RxFrame → ErrCounts → Instr} (hn : n ∈ ucNames)
    (hrow : ∀ cc f e, nameAmong cc ucNames f.cmd = some n → selectUc cc f e = row f e) : opcodeSelects .uc n row :=
  opcodeSelects_of_handler (handler := selectUc) select_rx_uc hn hrow

/-! ### Outbound frames, field by field -/

/-- `mkpayload` builds the frame of R50. -/
theorem mkpayload_eq_ownFrame (cfg : Cfg) (c : CommandName) (p : Payload) :
    mkpayload cfg c p = ownFrame cfg (cfg.cc.code c) p := by
  rw [mkpayload, ownFrame, BitVec.setWidth_eq_extractLsb' (by decide)]

/-- The heartbeat (R51). -/
theorem heartbeatFrame_eq_ownFrame (cfg : Cfg) (c : CommandName) :
    heartbeatFrame cfg c = ownFrame cfg (cfg.cc.code c) (heartbeatBytes cfg) :=
  mkpayload_eq_ownFrame cfg c (heartbeatPayload cfg)

/-- The narrowing of the transmit counter keeps its two low bytes (R52). -/
theorem halfByte_narrowTxErr (t : Word) {i : Nat} (hi : i < 2) : halfByte (narrowTxErr t) i = t.extractLsb' (8 * i) 8 :=
  BitVec.extractLsb'_setWidth_of_le (by omega)

/-- The diagnosis reply with its counters narrowed (R52, R98). -/
theorem diagnosisFrame_eq_ownFrame (cfg : Cfg) (r t e : Word) :
    diagnosisFrame cfg (narrowRxErr r) (narrowTxErr t) e =
      ownFrame cfg cfg.cc.linkDiagnosisReply
        { p0 := r.extractLsb' 0 8, p1 := t.extractLsb' 0 8, p2 := t.extractLsb' 8 8, p3 := e.extractLsb' 0 8,
          p4 := e.extractLsb' 8 8, p5 := e.extractLsb' 16 8, p6 := e.extractLsb' 24 8 } := by
  rw [diagnosisFrame, mkframe, mkpayload_eq_ownFrame, Payload.ofScalars, halfByte_narrowTxErr t (by decide),
    halfByte_narrowTxErr t (by decide), narrowRxErr, BitVec.setWidth_eq_extractLsb' (by decide)]
  rfl

/-! ### The rows -/

/-- Settles O1: each row is one call of the indicator. -/
theorem identifyLedRowsDriveIndicator : Obligations.IdentifyLedRowsDriveIndicator :=
  ⟨opcodeSelects_ba (by decide) fun _ _ _ h => by rw [selectBa, h],
    opcodeSelects_uc (by decide) fun _ _ _ h => by rw [selectUc, h],
    fun _ hs => ⟨whileRunning_running hs, whileRunning_running hs⟩⟩

/-- Settles O2: unmuting does not touch `identified`, which alone decides whether a start is scheduled. -/
theorem identifyUnknownUnmutesAndSchedules : Obligations.IdentifyUnknownUnmutesAndSchedules := by
  refine ⟨opcodeSelects_ba (by decide) fun _ _ _ h => by rw [selectBa, h], fun s hs => ?_⟩
  refine (whileRunning_running hs).trans ?_
  cases hid : s.dev.identified <;> simp [hid, State.setMuted, State.setForceStart]

/-- Settles O3: each of the four rows is the orphan procedure, whose effect is `State.orphan_eq`. -/
theorem offlineAndParkRowsOrphan : Obligations.OfflineAndParkRowsOrphan := by
  refine ⟨opcodeSelects_ba (by decide) fun _ _ _ h => by rw [selectBa, h],
    opcodeSelects_ba (by decide) fun _ _ _ h => by rw [selectBa, h],
    opcodeSelects_uc (by decide) fun _ _ _ h => by rw [selectUc, h],
    opcodeSelects_uc (by decide) fun _ _ _ h => by rw [selectUc, h], fun s hs i hi => ?_⟩
  have hrow : exec i s = whileRunning s s.orphan := by
    fin_cases hi <;> rfl
  rw [hrow, whileRunning_running hs, State.orphan_eq]

/-- Settles O4: the row carries the payload's `v32`, which is `P[3] .. P[6]` little-endian, and hands it on. -/
theorem syncTicksForwardsValue : Obligations.SyncTicksForwardsValue :=
  ⟨opcodeSelects_ba (by decide) fun _ _ _ h => by rw [selectBa, h]; rfl, fun _ _ hs => whileRunning_running hs⟩

/-- Settles O5: the four writes, then the pulse. -/
theorem unicastIdentifySetsFlags : Obligations.UnicastIdentifySetsFlags :=
  ⟨opcodeSelects_uc (by decide) fun _ _ _ h => by rw [selectUc, h], fun _ hs => whileRunning_running hs⟩

/-- Settles O6: two appends to the output, the reply in the heartbeat format of R51 first. -/
theorem aliveRequestDrawsReply : Obligations.AliveRequestDrawsReply := by
  refine ⟨opcodeSelects_uc (by decide) fun _ _ _ h => by rw [selectUc, h], fun s hs => ?_⟩
  calc exec .ucAlive s
      = .next ((s.sendHeartbeat .aliveReply).pulse .alive) := whileRunning_running hs
    _ = .next { s with out := s.out ++ [.tx (heartbeatFrame s.cfg .aliveReply)] ++
          [.pulse .alive s.cfg.pulseColor.alive] } := rfl
    _ = _ := by rw [List.append_assoc, heartbeatFrame_eq_ownFrame]; rfl

/-- Settles O7: the lifecycle state is written and the payload's `v32` handed on. -/
theorem ledFlashPositionGoesOnline : Obligations.LedFlashPositionGoesOnline :=
  ⟨opcodeSelects_uc (by decide) fun _ _ _ h => by rw [selectUc, h]; rfl, fun _ _ hs => whileRunning_running hs⟩

/-- Settles O8: the row is the pulse. -/
theorem aliveReplyOnlyPulses : Obligations.AliveReplyOnlyPulses :=
  ⟨opcodeSelects_uc (by decide) fun _ _ _ h => by rw [selectUc, h], fun _ hs => whileRunning_running hs⟩

/-- Settles O9: the row sends the diagnosis frame of the narrowed samples. -/
theorem linkDiagnosisReportsCounters : Obligations.LinkDiagnosisReportsCounters := by
  refine ⟨opcodeSelects_uc (by decide) fun _ _ _ h => by rw [selectUc, h], fun s r t e hs => ?_⟩
  rw [← diagnosisFrame_eq_ownFrame]
  exact whileRunning_running hs

/-- Settles O10: both rows write the flag, and only the unicast row's operations hold a pulse. -/
theorem muteAllRowsSetMuted : Obligations.MuteAllRowsSetMuted :=
  ⟨opcodeSelects_uc (by decide) fun _ _ _ h => by rw [selectUc, h],
    opcodeSelects_bt (by decide) fun _ _ _ h => by rw [selectBt, h],
    fun _ hs => ⟨whileRunning_running hs, whileRunning_running hs⟩⟩

end Sys2Proof.Machine
end

section
/-! The liveness timer (spec/42_liveness_timer.md R110 to R116): all that a tick does, and what it reads to do it; that no other
instruction drives the countdown or clears a pending start; and, from the two, the heartbeat's period. -/

namespace Sys2Proof.Machine

/-! ### The re-arm interval (R111) -/

/-- `N` by the low six bits of `SERIAL` (R111). -/
theorem rearmInterval_eq (cfg : Cfg) : rearmInterval cfg = 1000 * (cfg.serial.toNat % 64 + 360) := by
  have hjitter : (cfg.serial &&& Config.jitterMask).toNat = cfg.serial.toNat % 64 := by
    rw [BitVec.toNat_and]
    exact Nat.and_two_pow_sub_one_eq_mod _ 6
  rw [rearmInterval, hjitter, Config.baseSeconds]

/-- Settles O24: `N` is affine in the low six bits of `SERIAL`, and the serial `j` has the low bits `j`. -/
theorem rearmIntervalRange : Obligations.RearmIntervalRange := by
  refine ⟨fun cfg => ?_, fun cfg j hj => ⟨BitVec.ofNat 32 j, ?_⟩⟩
  · have hN := rearmInterval_eq cfg
    exact ⟨cfg.serial.toNat % 64, by omega, rfl, hN, by omega, by omega, by omega⟩
  · rw [rearmInterval_eq, BitVec.toNat_ofNat]
    omega

theorem rearmValue_eq_ofNat (cfg : Cfg) : rearmValue cfg = BitVec.ofNat 32 (rearmInterval cfg) :=
  BitVec.ofNatLT_eq_ofNat _

/-- One tick off a countdown of at least a tick, as a natural number. -/
theorem ofNat_sub_ten {c : Nat} (h : 10 ≤ c) : BitVec.ofNat 32 c - 10#32 = BitVec.ofNat 32 (c - 10) :=
  BitVec.ofNat_sub_ofNat_of_le c 10 (by decide) h

/-! ### All that a tick does (R112) -/

/-- What a tick of a running block sends, and the countdown and the count of free values it leaves. -/
structure TickEffect where
  sent : List Action
  countdown : Reg32
  draws : Nat

/-- A heartbeat is sent, and the countdown re-armed and decremented in the same tick. -/
def TickEffect.rearmed (cfg : Cfg) (c : CommandName) (draws : Nat) : TickEffect where
  sent := [.tx (ownFrame cfg (cfg.cc.code c) (heartbeatBytes cfg))]
  countdown := Reg32.holding (BitVec.ofNat 32 (rearmInterval cfg) - 10#32)
  draws := draws

/-- Steps 2 and 3 on a countdown of value `v`. -/
def TickEffect.ofValue (cfg : Cfg) (v : Word) (draws : Nat) : TickEffect :=
  if v.toInt ≤ 0 then .rearmed cfg .alive draws else ⟨[], Reg32.holding (v - 10#32), draws⟩

/-- The three steps of R112, as a function of all that they read (R114). An unwritten countdown is read as a free value (log 5). -/
def tickEffect (cfg : Cfg) (pending : Bool) (countdown : Reg32) (draws : Nat) : TickEffect :=
  if pending then .rearmed cfg .startRequest draws
  else if countdown.written then .ofValue cfg countdown.bits draws
  else .ofValue cfg (Config.unwrittenCountdown draws) (draws + 1)

/-- The state that a tick with the effect given leaves. -/
def TickEffect.apply (e : TickEffect) (s : State) : State :=
  { s with dev := { s.dev with forceStartPending := false, countdown := e.countdown }, out := s.out ++ e.sent, draws := e.draws }

theorem TickEffect.ofValue_expired {cfg : Cfg} {v : Word} {draws : Nat} (h : v.toInt ≤ 0) :
    ofValue cfg v draws = rearmed cfg .alive draws := if_pos h

theorem TickEffect.ofValue_counting {cfg : Cfg} {v : Word} {draws : Nat} (h : 0 < v.toInt) :
    ofValue cfg v draws = ⟨[], Reg32.holding (v - 10#32), draws⟩ := if_neg (not_le.2 h)

/-- A tick sends only when it re-arms. -/
theorem TickEffect.ofValue_countdown_of_sent {cfg : Cfg} {v : Word} {draws : Nat} (h : (ofValue cfg v draws).sent ≠ []) :
    (ofValue cfg v draws).countdown = Reg32.holding (BitVec.ofNat 32 (rearmInterval cfg) - 10#32) := by
  obtain hv | hv := le_or_gt v.toInt 0
  · rw [ofValue_expired hv]; rfl
  · rw [ofValue_counting hv] at h
    exact absurd rfl h

theorem tickEffect_pending (cfg : Cfg) (countdown : Reg32) (draws : Nat) :
    tickEffect cfg true countdown draws = .rearmed cfg .startRequest draws := rfl

theorem tickEffect_written {cfg : Cfg} {countdown : Reg32} {draws : Nat} (h : countdown.written = true) :
    tickEffect cfg false countdown draws = .ofValue cfg countdown.bits draws := by
  simp [tickEffect, h]

theorem tickEffect_unwritten {cfg : Cfg} {countdown : Reg32} {draws : Nat} (h : countdown.written = false) :
    tickEffect cfg false countdown draws = .ofValue cfg (Config.unwrittenCountdown draws) (draws + 1) := by
  simp [tickEffect, h]

theorem tickEffect_countdown_of_sent {cfg : Cfg} {pending : Bool} {countdown : Reg32} {draws : Nat}
    (h : (tickEffect cfg pending countdown draws).sent ≠ []) :
    (tickEffect cfg pending countdown draws).countdown =
      Reg32.holding (BitVec.ofNat 32 (rearmInterval cfg) - 10#32) := by
  cases pending with
  | true => rfl
  | false =>
    cases hw : countdown.written with
    | true =>
      rw [tickEffect_written hw] at h ⊢
      exact TickEffect.ofValue_countdown_of_sent h
    | false =>
      rw [tickEffect_unwritten hw] at h ⊢
      exact TickEffect.ofValue_countdown_of_sent h

/-- With no start pending a tick decides by the value to which it settles the countdown. -/
theorem State.tick_of_settled {s : State} {v : Word} {n : Nat} (hno : s.dev.forceStartPending = false)
    (hsettled : s.settleCountdown = { s with dev := { s.dev with countdown := Reg32.holding v }, draws := n }) :
    s.tickHeartbeat.stepCountdown = (TickEffect.ofValue s.cfg v n).apply s := by
  have hvalue : s.settleCountdown.dev.countdown.bits = v := by rw [hsettled]; rfl
  obtain ⟨hstart, _⟩ | ⟨_, hv, ht⟩ | ⟨_, hv, ht⟩ := s.tickHeartbeat_cases
  · rw [hno] at hstart; cases hstart
  · rw [hvalue] at hv
    rw [ht, hsettled, TickEffect.ofValue_expired hv, TickEffect.rearmed, ← heartbeatFrame_eq_ownFrame, ← rearmValue_eq_ofNat,
      TickEffect.apply, ← hno]
    rfl
  · rw [hvalue] at hv
    rw [ht, hsettled, TickEffect.ofValue_counting hv, TickEffect.apply, List.append_nil, ← hno]
    rfl

/-- All that a tick does to a running block. -/
theorem exec_tick_running {s : State} (hs : s.dev.halted = false) :
    exec .tick s = .next ((tickEffect s.cfg s.dev.forceStartPending s.dev.countdown s.draws).apply s) := by
  refine (whileRunning_running hs).trans (congrArg _ ?_)
  cases hstart : s.dev.forceStartPending with
  | true =>
    obtain ⟨_, ht⟩ | ⟨hno, _⟩ | ⟨hno, _⟩ := s.tickHeartbeat_cases
    · rw [ht, tickEffect_pending, TickEffect.rearmed, ← heartbeatFrame_eq_ownFrame, ← rearmValue_eq_ofNat]
      rfl
    all_goals rw [hstart] at hno; cases hno
  | false =>
    cases hw : s.dev.countdown.written with
    | true =>
      rw [tickEffect_written hw]
      refine State.tick_of_settled hstart ?_
      rw [State.settleCountdown_written hw, Reg32.holding, ← hw]
    | false =>
      rw [tickEffect_unwritten hw]
      exact State.tick_of_settled hstart (State.settleCountdown_unwritten hw)

theorem select_tick {ctx : Context} (h : ctx.halted = false) : select ctx .tick = .tick := by
  simp [select, h]

/-- Settles O22: the three cases of `tickEffect` on a written countdown. -/
theorem tickFollowsItsThreeSteps : Obligations.TickFollowsItsThreeSteps := by
  refine ⟨fun _ => select_tick, fun s => ⟨fun hs => exec_halted hs (by simp), fun hs hstart => ?_, fun hs hno hw hv => ?_,
    fun hs hno hw hv => ?_⟩⟩
  · rw [exec_tick_running hs, hstart, tickEffect_pending]
    rfl
  · rw [exec_tick_running hs, hno, tickEffect_written hw, TickEffect.ofValue_expired hv, TickEffect.apply, ← hno]
    rfl
  · rw [exec_tick_running hs, hno, tickEffect_written hw, TickEffect.ofValue_counting hv, TickEffect.apply, List.append_nil,
      ← hno]
    rfl

/-- Settles O26: the two states give `tickEffect` the same arguments. -/
theorem timerConsultsNothingElse : Obligations.TimerConsultsNothingElse := by
  intro s s' hs hs' hcfg hdraws hpending hcountdown
  refine ⟨_, _, _, exec_tick_running hs, ?_⟩
  rw [exec_tick_running hs', hcfg, hdraws, hpending, hcountdown]
  rfl

/-! ### Who else writes what the timer reads (R110) -/

/-- Settles O49: a quiet change keeps the countdown and a pending start, the registers of the update record are others, and
`BOOT` leaves a start pending. -/
theorem onlyTickDrivesTimer : Obligations.OnlyTickDrivesTimer := by
  intro i s t hi h
  cases execEffect_of_exec h with
  | idle => exact ⟨fun _ => rfl, id⟩
  | quiet hq => exact ⟨fun _ => hq.countdown, hq.start⟩
  | boot cfg => exact ⟨fun hne => absurd rfl (hne cfg), fun _ => rfl⟩
  | tick => exact absurd rfl hi
  | verify => exact ⟨fun _ => rfl, id⟩
  | pageCrc page crc =>
    obtain ⟨_, hst⟩ | ⟨_, hst⟩ := s.storeCrc_cases (crcIndex page) (crcValue crc) <;> rw [hst] <;>
      exact ⟨fun _ => rfl, id⟩
  | reset _ _ hq => exact ⟨fun _ => hq.countdown, hq.start⟩

/-! ### What a step keeps of the schedule, and which stimulus is a tick -/

@[simp] theorem State.settleCountdown_inbox (s : State) : s.settleCountdown.inbox = s.inbox := by
  cases h : s.dev.countdown.written
  · rw [State.settleCountdown_unwritten h]
  · rw [State.settleCountdown_written h]

@[simp] theorem State.tickHeartbeat_inbox (s : State) : s.tickHeartbeat.inbox = s.inbox := by
  obtain ⟨_, h⟩ | ⟨_, _, h⟩ | ⟨_, _, h⟩ := s.tickHeartbeat_cases <;> simp [h]

@[simp] theorem State.storeCrc_inbox (s : State) (i : Nat) (v : BitVec Config.crcWidth) :
    (s.storeCrc i v).inbox = s.inbox := by
  obtain ⟨_, h⟩ | ⟨_, h⟩ := s.storeCrc_cases i v <;> rw [h]

/-- No instruction touches the schedule. -/
theorem exec_inbox {i : Instr} {s t : State} (h : exec i s = .next t) : t.inbox = s.inbox := by
  cases execEffect_of_exec h with
  | idle => rfl
  | quiet hq => exact hq.inbox
  | boot cfg => exact s.bootWith_inbox cfg
  | tick => simp
  | verify => rfl
  | pageCrc page crc => exact s.storeCrc_inbox _ _
  | reset _ _ hq => exact hq.inbox

theorem selectBa_ne_tick (cc : CommandCodes) (f : RxFrame) : selectBa cc f ≠ .tick := by
  unfold selectBa
  split <;> simp

theorem selectBt_ne_tick (cc : CommandCodes) (f : RxFrame) : selectBt cc f ≠ .tick := by
  unfold selectBt
  split <;> simp

theorem selectUc_ne_tick (cc : CommandCodes) (f : RxFrame) (e : ErrCounts) : selectUc cc f e ≠ .tick := by
  unfold selectUc
  split <;> simp

theorem selectRx_ne_tick (cfg : Cfg) (f : RxFrame) (e : ErrCounts) : selectRx cfg f e ≠ .tick := by
  unfold selectRx
  split
  · simp
  · split
    · simp
    · split
      · exact selectBa_ne_tick _ _
      · exact selectBt_ne_tick _ _
      · exact selectUc_ne_tick _ _ _
      all_goals simp

theorem selectFrag_ne_tick (cfg : Cfg) (online : Bool) (tag : Byte) (n : Word) (buf : List Byte) :
    selectFrag cfg online tag n buf ≠ .tick := by
  unfold selectFrag
  split
  · simp
  · split
    · simp
    · split <;> simp

/-- Only the port of the tick selects the tick (R65, R110). -/
theorem select_ne_tick {ctx : Context} {st : Stimulus} (h : st ≠ .tick) : select ctx st ≠ .tick := by
  cases hrun : ctx.halted with
  | true =>
    cases st with
    | boot _ => simp [select]
    | tick | rx _ _ | frag _ _ _ => simp [select, hrun]
  | false =>
    cases st with
    | tick => exact absurd rfl h
    | boot _ => simp [select]
    | rx f e => simpa [select, hrun] using selectRx_ne_tick ctx.cfg f e
    | frag tag n buf => simpa [select, hrun] using selectFrag_ne_tick ctx.cfg ctx.online tag n buf

/-! ### Counting down -/

/-- The block runs with no start pending, under the configuration given, with `c` milliseconds left and the schedule given. -/
structure State.CountsDown (cfg : Cfg) (c : Nat) (l : List Stimulus) (s : State) : Prop where
  running : s.dev.halted = false
  noStart : s.dev.forceStartPending = false
  cfg_eq : s.cfg = cfg
  countdown : s.dev.countdown = Reg32.holding (BitVec.ofNat 32 c)
  inbox : s.inbox = l

namespace State.CountsDown

variable {cfg : Cfg} {c : Nat} {l : List Stimulus} {s t : State}

/-- What a tick does while the block counts down. -/
theorem step_tick (h : s.CountsDown cfg c (.tick :: l)) :
    step s = .next ((TickEffect.ofValue cfg (BitVec.ofNat 32 c) s.draws).apply { s with inbox := l }) := by
  have hw : s.dev.countdown.written = true := by rw [h.countdown]; rfl
  rw [step_cons h.inbox, select_tick h.running, exec_tick_running (s := { s with inbox := l }) h.running, h.noStart,
    tickEffect_written hw, h.countdown, h.cfg_eq]
  rfl

/-- A tick with at least a tick left is silent and takes one tick off (R112). -/
theorem step_tick_counting (h : s.CountsDown cfg c (.tick :: l)) (hge : 10 ≤ c) (hlt : c < 2 ^ 31) :
    ∃ t, step s = .next t ∧ t.out = s.out ∧ t.CountsDown cfg (c - 10) l := by
  have hpos : 0 < (BitVec.ofNat 32 c).toInt := by
    rw [BitVec.toInt_eq_toNat_of_lt (by simp; omega), BitVec.toNat_ofNat]
    omega
  have hstep := h.step_tick
  rw [TickEffect.ofValue_counting hpos, ofNat_sub_ten hge] at hstep
  exact ⟨_, hstep, List.append_nil _, ⟨h.running, rfl, h.cfg_eq, rfl, rfl⟩⟩

/-- A tick with nothing left sends an `alive` and re-arms (R112). -/
theorem step_tick_expired (h : s.CountsDown cfg 0 (.tick :: l)) :
    step s = .next { s with
      inbox := l,
      dev := { s.dev with countdown := Reg32.holding (BitVec.ofNat 32 (rearmInterval cfg - 10)) },
      out := s.out ++ [.tx (ownFrame cfg cfg.cc.alive (heartbeatBytes cfg))] } := by
  rw [h.step_tick, TickEffect.ofValue_expired (by decide), TickEffect.rearmed, ofNat_sub_ten (rearmInterval_bounds cfg).1,
    TickEffect.apply, ← h.noStart]
  rfl

/-- Any other stimulus leaves the time as it is (R110), provided that the block still runs with no start pending: a `BOOT` would
leave one. -/
theorem step_other {st : Stimulus} (h : s.CountsDown cfg c (st :: l)) (hst : st ≠ .tick) (hstep : step s = .next t)
    (hrun : t.dev.halted = false) (hno : t.dev.forceStartPending = false) : t.CountsDown cfg c l := by
  rw [step_cons h.inbox] at hstep
  have hboot : ∀ d, select s.context st ≠ .boot d := by
    intro d hd
    rw [hd] at hstep
    cases hstep
    cases hno
  obtain ⟨hcountdown, _⟩ := onlyTickDrivesTimer _ _ _ (select_ne_tick hst) hstep
  exact ⟨hrun, hno, (exec_cfg_of_ne_boot hboot hstep).trans h.cfg_eq, (hcountdown hboot).trans h.countdown,
    exec_inbox hstep⟩

end State.CountsDown

/-! ### Runs without a heartbeat -/

/-- A run goes on from where a shorter run ends. -/
theorem State.run_add {s t : State} {k : Nat} (h : s.run k = .next t) (m : Nat) : s.run (k + m) = t.run m := by
  induction k generalizing s with
  | zero => cases h; rw [Nat.zero_add]
  | succ k ih =>
    obtain ⟨u, hu, hrun⟩ := State.run_succ_eq_next h
    rw [Nat.add_right_comm, State.run_succ_next _ hu, ih hrun]

/-- No tick among the stimuli `l` that `s` accepts next sends anything. -/
def State.TicksSilent (s : State) (l : List Stimulus) : Prop :=
  ∀ (j : Nat) (t t' : State), l[j]? = some .tick → s.run j = .next t → s.run (j + 1) = .next t' → t'.out = t.out

theorem State.TicksSilent.cons {s u : State} {st : Stimulus} {l : List Stimulus} (hstep : step s = .next u)
    (hfirst : st = .tick → u.out = s.out) (h : u.TicksSilent l) : s.TicksSilent (st :: l) := by
  intro j t t' htick ht ht'
  rw [State.run_succ_next _ hstep] at ht'
  cases j with
  | zero =>
    cases ht
    cases ht'
    exact hfirst (by simpa using htick)
  | succ j =>
    rw [State.run_succ_next _ hstep] at ht
    exact h j t t' (by simpa using htick) ht ht'

/-- For `n` steps from `s` the block goes on running with no start pending. -/
def State.RunsUnstarted (s : State) (n : Nat) : Prop :=
  ∀ k ≤ n, ∃ t : State, s.run k = .next t ∧ t.dev.forceStartPending = false ∧ t.dev.halted = false

/-- The first of such steps, and the others. -/
theorem State.RunsUnstarted.step {s : State} {n : Nat} (h : s.RunsUnstarted (n + 1)) :
    ∃ u, step s = .next u ∧ u.dev.forceStartPending = false ∧ u.dev.halted = false ∧ u.RunsUnstarted n := by
  obtain ⟨t, ht, hno, hrun⟩ := h 1 (Nat.le_add_left 1 n)
  obtain ⟨u, hu, hut⟩ := State.run_succ_eq_next ht
  cases hut
  exact ⟨t, hu, hno, hrun, fun k hk => State.run_succ_next k hu ▸ h (k + 1) (Nat.succ_le_succ hk)⟩

/-- The ticks of `l` are silent, and after all of `l` the block counts down from `c` with `rest` to come. -/
def State.SilentThrough (cfg : Cfg) (c : Nat) (rest l : List Stimulus) (s : State) : Prop :=
  s.TicksSilent l ∧ ∃ t, s.run l.length = .next t ∧ t.CountsDown cfg c rest

theorem State.SilentThrough.cons {cfg : Cfg} {c : Nat} {rest l : List Stimulus} {st : Stimulus} {s u : State}
    (hstep : step s = .next u) (hfirst : st = .tick → u.out = s.out) (h : u.SilentThrough cfg c rest l) :
    s.SilentThrough cfg c rest (st :: l) := by
  obtain ⟨hsilent, t, ht, hend⟩ := h
  exact ⟨hsilent.cons hstep hfirst, t, (State.run_succ_next _ hstep).trans ht, hend⟩

/-- While the time suffices for all the ticks of `l`, none of them sends, and each takes 10 ms off, whatever comes between them. -/
theorem State.CountsDown.silentThrough {cfg : Cfg} {rest l : List Stimulus} {c : Nat} {s : State}
    (h : s.CountsDown cfg c (l ++ rest)) (hcount : 10 * tickCount l ≤ c) (hlt : c < 2 ^ 31)
    (hgood : s.RunsUnstarted l.length) : s.SilentThrough cfg (c - 10 * tickCount l) rest l := by
  induction l generalizing s c with
  | nil => exact ⟨fun _ _ _ hnil => by simp at hnil, s, rfl, h⟩
  | cons st l ih =>
    obtain ⟨u, hu, hno, hrun, hgood'⟩ := hgood.step
    by_cases hst : st = .tick
    · subst hst
      have hmore : tickCount (.tick :: l) = tickCount l + 1 := List.count_cons_self
      obtain ⟨u', hu', hout, hdown⟩ := h.step_tick_counting (by omega) hlt
      cases hu.symm.trans hu'
      have hleft : c - 10 - 10 * tickCount l = c - 10 * tickCount (.tick :: l) := by omega
      exact hleft ▸ .cons hu (fun _ => hout) (ih hdown (by omega) (by omega) hgood')
    · have hsame : tickCount (st :: l) = tickCount l := List.count_cons_of_ne hst
      rw [hsame] at hcount ⊢
      exact .cons hu (fun heq => absurd heq hst) (ih (h.step_other hst hu hrun hno) hcount hlt hgood')

/-! ### The period (R116) -/

/-- A tick that sends a heartbeat re-arms, so that from then on the block counts down from `N - 10`. -/
theorem State.countsDown_of_heartbeat {s t : State} {f : OutFrame} {l : List Stimulus} (hin : s.inbox = .tick :: l)
    (hstep : step s = .next t) (hout : t.out = s.out ++ [.tx f]) (hno : t.dev.forceStartPending = false)
    (hrun : t.dev.halted = false) : t.CountsDown s.cfg (rearmInterval s.cfg - 10) l := by
  rw [step_cons hin] at hstep
  cases hs : s.dev.halted with
  | true =>
    rw [select_halted hs (by simp)] at hstep
    cases hstep
    simp at hout
  | false =>
    rw [select_tick hs, exec_tick_running (s := { s with inbox := l }) hs] at hstep
    cases hstep
    have hsent := tickEffect_countdown_of_sent (by rw [List.append_cancel_left hout]; simp)
    exact ⟨hrun, hno, rfl, hsent.trans (by rw [ofNat_sub_ten (rearmInterval_bounds _).1]), rfl⟩

/-- Settles O25: the heartbeat arms the countdown with `N - 10`, the `N / 10 - 1` ticks of `l` use it up in silence, and the next
tick finds it at 0. -/
theorem heartbeatPeriod : Obligations.HeartbeatPeriod := by
  intro s t₁ f l rest hin hfirst hout hgood hcount
  obtain ⟨u, hu, hut⟩ := State.run_succ_eq_next hfirst
  cases hut
  have hgood' : t₁.RunsUnstarted l.length := fun k hk =>
    State.run_succ_next k hu ▸ hgood (k + 1) (Nat.le_add_left 1 k) (Nat.succ_le_succ hk)
  obtain ⟨_, ht₁, hno, hrun⟩ := hgood' 0 (Nat.zero_le _)
  cases ht₁
  obtain ⟨hge, hle, hmod⟩ := rearmInterval_bounds s.cfg
  have harmed := State.countsDown_of_heartbeat hin hu hout hno hrun
  obtain ⟨hsilent, t, ht, hend⟩ := harmed.silentThrough (by omega) (by omega) hgood'
  have hleft : rearmInterval s.cfg - 10 - 10 * tickCount l = 0 := by omega
  rw [hleft] at hend
  refine ⟨fun j v v' htick hv hv' => ?_, t, (State.run_succ_next _ hu).trans ht, ?_⟩
  · rw [State.run_succ_next _ hu] at hv hv'
    exact hsilent j v v' htick hv hv'
  · calc s.run (l.length + 2)
        = t₁.run (l.length + 1) := State.run_succ_next _ hu
      _ = t.run 1 := State.run_add ht 1
      _ = _ := State.run_succ_next 0 hend.step_tick_expired

end Sys2Proof.Machine
end

section
/-! The Fragmentation Engine's requests (spec/43_fragmentation.md R120 to R130): the row a request selects, what an accepted transfer
sends, frame by frame and byte by byte, and that the engine keeps nothing between two requests. -/

namespace Sys2Proof.Machine

/-! ### The row of a request -/

/-- The gate of R121 lets a request through on an online block, and the exempt tag always. -/
theorem fragGate_iff {cfg : Cfg} {online : Bool} {tag : Byte} :
    fragGate cfg online tag = true ↔ online = true ∨ tag = cfg.tagExtPageCrc := by
  simp [fragGate]

/-- A running block routes a request by the gate, the size and the tier (R120). -/
theorem select_frag {ctx : Context} (hrun : ctx.halted = false) (tag : Byte) (n : Word) (buf : List Byte) :
    select ctx (.frag tag n buf) = selectFrag ctx.cfg ctx.online tag n buf := by
  simp [select, hrun]

section Routing

variable {cfg : Cfg} {online : Bool} {tag : Byte} {n : Word} {buf : List Byte}

theorem selectFrag_closed (hgate : fragGate cfg online tag = false) :
    selectFrag cfg online tag n buf = .fragRefuseState tag n buf := by
  simp [selectFrag, hgate]

theorem selectFrag_oversize (hgate : fragGate cfg online tag = true) (hn : 65536 ≤ n.toNat) :
    selectFrag cfg online tag n buf = .fragRefuseSize tag n buf := by
  have hbig : Config.largeMax < n.toNat := hn
  simp [selectFrag, hgate, hbig]

theorem selectFrag_small (hgate : fragGate cfg online tag = true) (hn : n.toNat ≤ 1530) :
    selectFrag cfg online tag n buf = .fragSmall tag n buf := by
  have hfits : ¬ Config.largeMax < n.toNat := by
    unfold Config.largeMax
    omega
  have hsmall : n.toNat ≤ Config.smallMax := hn
  simp [selectFrag, hgate, hfits, hsmall]

theorem selectFrag_large (hgate : fragGate cfg online tag = true) (hlo : 1531 ≤ n.toNat) (hhi : n.toNat ≤ 65535) :
    selectFrag cfg online tag n buf = .fragLarge tag n buf := by
  have hfits : ¬ Config.largeMax < n.toNat := not_lt.2 hhi
  have hlarge : ¬ n.toNat ≤ Config.smallMax := not_le.2 hlo
  simp [selectFrag, hgate, hfits, hlarge]

end Routing

/-- Settles O27: the routing equations of `selectFrag`, one per clause; the two refusals are without effect by definition. -/
theorem fragmentationRequestRouting : Obligations.FragmentationRequestRouting := by
  refine ⟨fun ctx tag n buf hrun => ?_, fun _ _ _ _ => ⟨rfl, rfl⟩⟩
  rw [select_frag hrun]
  refine ⟨fun hoff htag => selectFrag_closed ?_, fun hopen => ?_⟩
  · exact Bool.eq_false_iff.2 fun hgate => (fragGate_iff.1 hgate).elim (by simp [hoff]) htag
  · have hgate := fragGate_iff.2 hopen
    exact ⟨selectFrag_oversize hgate, selectFrag_small hgate, selectFrag_large hgate⟩

/-! ### What an accepted transfer sends -/

section Accepted

variable {s : State} {tag : Byte} {n : Word} {buf : List Byte}

/-- A small transfer that the gate lets through hands over its frames and changes nothing else (R125, R128). -/
theorem exec_fragSmall_accepted (hr : s.dev.halted = false) (hg : s.dev.state = .online ∨ tag = s.cfg.tagExtPageCrc)
    (hb : n.toNat ≤ buf.length) :
    exec (.fragSmall tag n buf) s = .next { s with out := s.out ++ (smallFrames s.cfg tag n.toNat buf).map .tx } :=
  transfer_accepted hr hg hb

/-- A large transfer that the gate lets through hands over its frames and changes nothing else (R126, R128). -/
theorem exec_fragLarge_accepted (hr : s.dev.halted = false) (hg : s.dev.state = .online ∨ tag = s.cfg.tagExtPageCrc)
    (hb : n.toNat ≤ buf.length) :
    exec (.fragLarge tag n buf) s = .next { s with out := s.out ++ (largeFrames s.cfg tag n.toNat buf).map .tx } :=
  transfer_accepted hr hg hb

end Accepted

theorem smallFrames_length (cfg : Cfg) (tag : Byte) (len : Nat) (buf : List Byte) :
    (smallFrames cfg tag len buf).length = 1 + (len + 5) / 6 := by
  simp [smallFrames, ceilDiv, Nat.add_comm]

theorem largeFrames_length (cfg : Cfg) (tag : Byte) (len : Nat) (buf : List Byte) :
    (largeFrames cfg tag len buf).length = 1 + (len + 6) / 7 := by
  simp [largeFrames, ceilDiv, Nat.add_comm]

/-- Settles O30: the size selects the row, and the row sends its tier's frame list or nothing. -/
theorem fragmentCounts : Obligations.FragmentCounts := by
  intro s tag n buf rest hr hin hg hb
  have hgate : fragGate s.cfg (decide (s.dev.state = .online)) tag = true := fragGate_iff.2 (by simpa using hg)
  have hstep : step s =
      exec (selectFrag s.cfg (decide (s.dev.state = .online)) tag n buf) { s with inbox := rest } := by
    rw [step_cons hin, select_frag (ctx := s.context) hr]
    rfl
  rw [hstep]
  by_cases hsmall : n.toNat ≤ 1530
  · rw [selectFrag_small hgate hsmall, if_pos hsmall]
    exact ⟨_, exec_fragSmall_accepted (s := { s with inbox := rest }) hr hg hb, smallFrames_length ..⟩
  · rw [if_neg hsmall]
    by_cases hlarge : n.toNat ≤ 65535
    · rw [selectFrag_large hgate (not_le.1 hsmall) hlarge, if_pos hlarge]
      exact ⟨_, exec_fragLarge_accepted (s := { s with inbox := rest }) hr hg hb, largeFrames_length ..⟩
    · rw [selectFrag_oversize hgate (not_le.1 hlarge), if_neg hlarge]
      exact ⟨[], by rw [List.map_nil, List.append_nil]; rfl, rfl⟩

/-! ### The frames byte by byte -/

/-- The header's length field is the low half of the byte count (R54, R56). -/
theorem ofNat_toNat_eq_extractLsb' (n : Word) : BitVec.ofNat 16 n.toNat = n.extractLsb' 0 16 := by
  rw [← BitVec.setWidth_eq_extractLsb' (by decide), BitVec.ofNat_toNat]

/-- The header of a small transfer, field by field (R54). -/
theorem smallHeaderFrame_eq_ownFrame (cfg : Cfg) (tag : Byte) (len sum : Half) :
    smallHeaderFrame cfg tag len sum = ownFrame cfg cfg.cc.fragmentedPackage (headerBytes tag len sum) :=
  mkpayload_eq_ownFrame cfg .fragmentedPackage (headerPayload tag len sum)

/-- The header of a large transfer, field by field (R56). -/
theorem largeHeaderFrame_eq_ownFrame (cfg : Cfg) (tag : Byte) (len sum : Half) :
    largeHeaderFrame cfg tag len sum = ownFrame cfg cfg.cc.fragmentedLargeHeader (headerBytes tag len sum) :=
  mkpayload_eq_ownFrame cfg .fragmentedLargeHeader (headerPayload tag len sum)

/-- The data bytes of a fragment, by the buffer's own indices (R55, R57). -/
theorem fragmentByte_eq (cfg : Cfg) (len : Nat) (buf : List Byte) (width off j : Nat) :
    fragmentByte cfg len buf width off j = if j < min width (len - off) then buf.getD (off + j) 0#8 else cfg.pad := by
  rw [fragmentByte, List.getD_eq_getElem?_getD, List.getElem?_drop, ← List.getD_eq_getElem?_getD]

/-- A small data fragment whose bytes are given, field by field (R55). -/
theorem smallFragment_eq_ownFrame {cfg : Cfg} {len i : Nat} {buf : List Byte} {b : Nat → Byte}
    (hb : ∀ j, b j = fragmentByte cfg len buf 6 (6 * (i - 1)) j) :
    smallFragment cfg len buf i = ownFrame cfg cfg.cc.fragmentedPackage
      { p0 := BitVec.ofNat 8 i, p1 := b 0, p2 := b 1, p3 := b 2, p4 := b 3, p5 := b 4, p6 := b 5 } := by
  simp only [hb]
  exact mkpayload_eq_ownFrame cfg .fragmentedPackage _

/-- A large data fragment whose bytes are given, field by field (R57). -/
theorem largeFragment_eq_ownFrame {cfg : Cfg} {len i : Nat} {buf : List Byte} {b : Nat → Byte}
    (hb : ∀ j, b j = fragmentByte cfg len buf 7 (7 * (i - 1)) j) :
    largeFragment cfg len buf i = ownFrame cfg cfg.cc.fragmentedLargeData
      { p0 := b 0, p1 := b 1, p2 := b 2, p3 := b 3, p4 := b 4, p5 := b 5, p6 := b 6 } := by
  simp only [hb]
  exact mkpayload_eq_ownFrame cfg .fragmentedLargeData _

/-- The fragments of a transfer stand in ascending order of their 1-based numbers (R125, R126). -/
theorem getElem?_fragments {fragment : Nat → OutFrame} {m i : Nat} (h1 : 1 ≤ i) (hm : i ≤ m) :
    ((List.range m).map fun k => fragment (k + 1))[i - 1]? = some (fragment i) := by
  rw [List.getElem?_map, List.getElem?_range (by omega), Option.map_some, Nat.sub_add_cancel h1]

/-- Settles O28: the accepted transfer's frames are the header and the numbered fragments, each rewritten field by field. -/
theorem smallTransferFrames : Obligations.SmallTransferFrames := by
  intro s tag n buf hr hg _ hb
  refine ⟨(List.range (ceilDiv n.toNat 6)).map fun k => smallFragment s.cfg n.toNat buf (k + 1), ?_, by simp [ceilDiv], ?_⟩
  · rw [exec_fragSmall_accepted hr hg hb, smallFrames, smallHeaderFrame_eq_ownFrame, ofNat_toNat_eq_extractLsb']
  · intro i h1 hi b hbytes
    rw [List.length_map, List.length_range] at hi
    rw [getElem?_fragments h1 hi,
      smallFragment_eq_ownFrame fun j => (hbytes j).trans (fragmentByte_eq ..).symm]

/-- Settles O29: the accepted transfer's frames are the header and the numbered fragments, each rewritten field by field. -/
theorem largeTransferFrames : Obligations.LargeTransferFrames := by
  intro s tag n buf hr hg _ _ hb
  refine ⟨(List.range (ceilDiv n.toNat 7)).map fun k => largeFragment s.cfg n.toNat buf (k + 1), ?_, by simp [ceilDiv], ?_⟩
  · rw [exec_fragLarge_accepted hr hg hb, largeFrames, largeHeaderFrame_eq_ownFrame, ofNat_toNat_eq_extractLsb']
  · intro i h1 hi b hbytes
    rw [List.length_map, List.length_range] at hi
    rw [getElem?_fragments h1 hi,
      largeFragment_eq_ownFrame fun j => (hbytes j).trans (fragmentByte_eq ..).symm]

/-! ### No state between requests (R130) -/

/-- A meaning that only appends to the output, and appends the same in every state of the same configuration, `DEV.state` and
`DEV.halted` (R130). -/
def StatelessMeaning (m : State → Host.Outcome State Fault Refusal) : Prop :=
  (∀ s t : State, m s = .next t → ∃ as, t = { s with out := s.out ++ as }) ∧
  ∀ (s s' t : State) (as : List Action), s.cfg = s'.cfg → s.dev.state = s'.dev.state → s.dev.halted = s'.dev.halted →
    m s = .next t → t.out = s.out ++ as → m s' = .next { s' with out := s'.out ++ as }

/-- A row without effect appends nothing. -/
theorem statelessMeaning_idle : StatelessMeaning .next := by
  refine ⟨fun s t ht => ⟨[], ?_⟩, fun s s' t as _ _ _ ht has => ?_⟩ <;> cases ht
  · simp
  · simp [List.self_eq_append_right.1 has]

/-- A transfer that the halt or the gate stops has no effect (R121, R23). -/
theorem transfer_closed {tag : Byte} {n : Word} {buf : List Byte} {frames : List OutFrame} {s : State}
    (h : s.dev.halted = true ∨ (s.dev.state ≠ .online ∧ tag ≠ s.cfg.tagExtPageCrc)) :
    transfer tag n buf frames s = .next s := by
  obtain ⟨_, ho⟩ | ⟨hr, hg, _⟩ := transfer_cases (rfl : transfer tag n buf frames s = _)
  · exact ho
  · obtain hhalt | ⟨hstate, htag⟩ := h
    · simp [hr] at hhalt
    · exact absurd hg (not_or.2 ⟨hstate, htag⟩)

/-- A transfer whose frames depend on the configuration alone is decided by the configuration, `DEV.state` and `DEV.halted`. -/
theorem statelessMeaning_transfer (tag : Byte) (n : Word) (buf : List Byte) (frames : Cfg → List OutFrame) :
    StatelessMeaning fun s => transfer tag n buf (frames s.cfg) s := by
  refine ⟨fun s t ht => ?_, fun s s' t as hcfg hstate hhalt ht has => ?_⟩
  · obtain ⟨_, ho⟩ | ⟨_, _, ⟨_, ho⟩ | ⟨_, ho⟩⟩ := transfer_cases ht <;> cases ho
    · exact ⟨[], by simp⟩
    · exact ⟨(frames s.cfg).map .tx, rfl⟩
  · obtain ⟨hclosed, ho⟩ | ⟨hr, hg, ⟨hb, ho⟩ | ⟨_, ho⟩⟩ := transfer_cases ht <;> cases ho
    · rw [hcfg, hstate, hhalt] at hclosed
      simp [transfer_closed hclosed, List.self_eq_append_right.1 has]
    · rw [hcfg, hstate] at hg
      rw [← List.append_cancel_left has, hcfg]
      exact transfer_accepted (hhalt ▸ hr) hg hb

/-- Settles O35: the two refusals are without effect, and the other two rows are transfers. -/
theorem fragmentationIsStateless : Obligations.FragmentationIsStateless := by
  intro i tag n buf hi
  simp only [List.mem_cons, List.not_mem_nil, or_false] at hi
  obtain rfl | rfl | rfl | rfl := hi
  · exact statelessMeaning_idle
  · exact statelessMeaning_idle
  · exact statelessMeaning_transfer tag n buf fun cfg => smallFrames cfg tag n.toNat buf
  · exact statelessMeaning_transfer tag n buf fun cfg => largeFrames cfg tag n.toNat buf

end Sys2Proof.Machine
end

section
/-! Reassembly (spec/43_fragmentation.md R123, R131 to R133): the checksum is a byte sum, the data fragments carry the buffer and the
pad behind it, and so the receiver of either tier recovers what was sent. -/

namespace Sys2Proof.Machine

/-! ### The checksum (R123) -/

/-- The 16-bit running sum is the sum of the bytes as naturals, modulo `2^16`. -/
theorem toNat_foldl_add_setWidth (bs : List Byte) (k : Half) :
    (bs.foldl (fun k b => k + b.setWidth 16) k).toNat = (k.toNat + (bs.map BitVec.toNat).sum) % 65536 := by
  induction bs generalizing k with
  | nil => simp [Nat.mod_eq_of_lt k.isLt]
  | cons b bs ih =>
    have hb : b.toNat % 65536 = b.toNat := Nat.mod_eq_of_lt (by omega)
    rw [List.foldl_cons, ih, BitVec.toNat_add, BitVec.toNat_setWidth, hb, List.map_cons, List.sum_cons]
    omega

/-- Settles O31: the running sum from 0. -/
theorem checksumIsByteSum : Obligations.ChecksumIsByteSum := by
  intro buf n
  rw [checksum, toNat_foldl_add_setWidth, BitVec.toNat_zero, Nat.zero_add]

/-- The header's checksum is the sum a receiver forms over the recovered bytes (R131). -/
theorem byteSum_take (buf : List Byte) (len : Nat) : byteSum (buf.take len) = (checksum buf len).toNat :=
  (checksumIsByteSum buf len).symm

/-- Zero bytes add nothing to a sum. -/
theorem byteSum_append_zeros (bs : List Byte) (k : Nat) : byteSum (bs ++ List.replicate k 0#8) = byteSum bs := by
  simp [byteSum]

/-! ### The header as a receiver reads it -/

/-- A 16-bit value from its two bytes, the lower first. -/
theorem toNat_halfByte_add (v : Half) : (halfByte v 0).toNat + 256 * (halfByte v 1).toNat = v.toNat := by
  simp only [halfByte, BitVec.extractLsb'_toNat, Nat.shiftRight_eq_div_pow]
  omega

theorem headerLength_of_headerPayload {f : OutFrame} {tag : Byte} {len sum : Half} (h : f.p = headerPayload tag len sum) :
    headerLength f = len.toNat := by
  rw [headerLength, h]
  exact toNat_halfByte_add len

theorem headerSum_of_headerPayload {f : OutFrame} {tag : Byte} {len sum : Half} (h : f.p = headerPayload tag len sum) :
    headerSum f = sum.toNat := by
  rw [headerSum, h]
  exact toNat_halfByte_add sum

/-! ### The data bytes of all fragments -/

/-- Byte `p` of what the data fragments of a transfer carry: the buffer's below the length, the pad above (R55, R57). -/
def carriedByte (cfg : Cfg) (len : Nat) (buf : List Byte) (p : Nat) : Byte :=
  if p < len then buf.getD p 0#8 else cfg.pad

/-- The data bytes of one fragment are a stretch of the carried bytes. -/
theorem fragmentByte_eq_carriedByte {cfg : Cfg} {len width off j : Nat} {buf : List Byte} (hj : j < width) :
    fragmentByte cfg len buf width off j = carriedByte cfg len buf (off + j) := by
  have hbound : j < min width (len - off) ↔ off + j < len := by omega
  simp only [fragmentByte_eq, carriedByte, hbound]

/-- The data bytes of the first `m` fragments, one fragment after the other, are the first `width * m` carried bytes. -/
theorem flatMap_fragmentBytes (cfg : Cfg) (len width m : Nat) (buf : List Byte) :
    (List.range m).flatMap (fun k => (List.range width).map (fragmentByte cfg len buf width (width * k))) =
      (List.range (width * m)).map (carriedByte cfg len buf) := by
  induction m with
  | zero => rfl
  | succ m ih =>
    rw [List.range_succ, List.flatMap_append, ih, Nat.mul_succ, List.range_add, List.map_append, List.map_map,
      List.flatMap_singleton]
    congr 1
    exact List.map_congr_left fun j hj => fragmentByte_eq_carriedByte (List.mem_range.1 hj)

/-- The carried bytes are the first `len` bytes of the buffer and pads behind them. -/
theorem carriedBytes_eq {cfg : Cfg} {len total : Nat} {buf : List Byte} (hlen : len ≤ buf.length) (htotal : len ≤ total) :
    (List.range total).map (carriedByte cfg len buf) = buf.take len ++ List.replicate (total - len) cfg.pad := by
  obtain ⟨k, rfl⟩ := Nat.exists_eq_add_of_le htotal
  rw [List.range_add, List.map_append, List.map_map, Nat.add_sub_cancel_left]
  congr 1
  · refine List.ext_getElem (by simp [hlen]) fun p hp _ => ?_
    have hlt : p < len := by simpa using hp
    simp [carriedByte, hlt, List.getElem?_eq_getElem (hlt.trans_le hlen)]
  · rw [List.eq_replicate_iff]
    simp [carriedByte]

/-- Fragments enough for the length carry at least that many bytes. -/
theorem le_mul_ceilDiv (len : Nat) {width : Nat} (hw : 0 < width) : len ≤ width * ceilDiv len width := by
  have := Nat.div_add_mod (len + width - 1) width
  have := Nat.mod_lt (len + width - 1) hw
  unfold ceilDiv
  omega

/-- The data bytes of all fragments of a transfer: the buffer's first `len` bytes and the pads of the last fragment. -/
theorem flatMap_fragmentBytes_ceilDiv {cfg : Cfg} {len width : Nat} {buf : List Byte} (hw : 0 < width)
    (hlen : len ≤ buf.length) :
    (List.range (ceilDiv len width)).flatMap
        (fun k => (List.range width).map (fragmentByte cfg len buf width (width * k))) =
      buf.take len ++ List.replicate (width * ceilDiv len width - len) cfg.pad := by
  rw [flatMap_fragmentBytes, carriedBytes_eq hlen (le_mul_ceilDiv len hw)]

section Tiers

variable {cfg : Cfg} {tag : Byte} {len : Nat} {buf : List Byte}

/-- What the data fragments of a small transfer carry (R125). -/
theorem smallFrames_dataBytes (hlen : len ≤ buf.length) :
    (smallFrames cfg tag len buf).tail.flatMap smallBytes =
      buf.take len ++ List.replicate (6 * ceilDiv len 6 - len) cfg.pad := by
  rw [← flatMap_fragmentBytes_ceilDiv (by decide) hlen, smallFrames, List.tail_cons, List.flatMap_map]
  rfl

/-- What the data fragments of a large transfer carry (R126). -/
theorem largeFrames_dataBytes (hlen : len ≤ buf.length) :
    (largeFrames cfg tag len buf).tail.flatMap largeBytes =
      buf.take len ++ List.replicate (7 * ceilDiv len 7 - len) cfg.pad := by
  rw [← flatMap_fragmentBytes_ceilDiv (by decide) hlen, largeFrames, List.tail_cons, List.flatMap_map]
  rfl

/-- Every small data fragment of a transfer has the tier's command and its own 1-based index, which fits its byte (R55, R125). -/
theorem smallFrames_commandIndex (hn : len ≤ 1530) :
    (smallFrames cfg tag len buf).tail.map (fun f => (f.cmd, f.p.p0.toNat)) =
      (List.range ((len + 5) / 6)).map fun k => (cfg.cc.fragmentedPackage, k + 1) := by
  rw [smallFrames, List.tail_cons, List.map_map]
  refine List.map_congr_left fun k hk => ?_
  have hk' : k < (len + 5) / 6 := List.mem_range.1 hk
  have hindex : (BitVec.ofNat 8 (k + 1)).toNat = k + 1 := by
    rw [BitVec.toNat_ofNat]
    omega
  exact congrArg (Prod.mk cfg.cc.fragmentedPackage) hindex

/-- Every large data fragment of a transfer has the tier's data command and the header's identifier (R57, R126). -/
theorem largeFrames_commandIdent :
    (largeFrames cfg tag len buf).tail.map (fun f => (f.cmd, f.ident)) =
      List.replicate ((len + 6) / 7) (cfg.cc.fragmentedLargeData, cfg.serial.setWidth 29) := by
  rw [List.eq_replicate_iff, List.length_map, List.length_tail, largeFrames_length, Nat.add_sub_cancel_left]
  refine ⟨rfl, fun x hx => ?_⟩
  obtain ⟨f, hf, rfl⟩ := List.mem_map.1 hx
  obtain ⟨k, _, rfl⟩ := List.mem_map.1 hf
  rfl

/-! ### The receivers -/

/-- The length a receiver reads from the header of a transfer of fewer than 65536 bytes. -/
theorem headerLength_of_transfer {f : OutFrame} {sum : Half} (hf : f.p = headerPayload tag (BitVec.ofNat 16 len) sum)
    (hn : len ≤ 65535) : headerLength f = len := by
  rw [headerLength_of_headerPayload hf, BitVec.toNat_ofNat]
  omega

/-- The receiver of the small tier recovers a transfer's tag and buffer (R131). -/
theorem receiveSmall_smallFrames (hn : len ≤ 1530) (hlen : len ≤ buf.length) :
    receiveSmall cfg.cc (smallFrames cfg tag len buf) = some (tag, buf.take len) := by
  have hdata := smallFrames_dataBytes (cfg := cfg) (tag := tag) hlen
  have hindex := smallFrames_commandIndex (cfg := cfg) (tag := tag) (buf := buf) hn
  have hL := headerLength_of_transfer (f := smallHeaderFrame cfg tag (BitVec.ofNat 16 len) (checksum buf len)) rfl
    (by omega : len ≤ 65535)
  have hK := headerSum_of_headerPayload (f := smallHeaderFrame cfg tag (BitVec.ofNat 16 len) (checksum buf len)) rfl
  have hbytes := List.take_left' (l₂ := List.replicate (6 * ceilDiv len 6 - len) cfg.pad) (List.length_take_of_le hlen)
  rw [smallFrames, List.tail_cons] at hdata hindex
  simp only [smallFrames, receiveSmall, hL, hdata, hbytes]
  exact if_pos ⟨rfl, rfl, hindex, (byteSum_take buf len).trans hK.symm⟩

/-- The receiver of the large tier recovers a transfer's tag and buffer (R132). -/
theorem receiveLarge_largeFrames (hn : len ≤ 65535) (hlen : len ≤ buf.length) :
    receiveLarge cfg.cc (largeFrames cfg tag len buf) = some (tag, buf.take len) := by
  have hdata := largeFrames_dataBytes (cfg := cfg) (tag := tag) hlen
  have hident := largeFrames_commandIdent (cfg := cfg) (tag := tag) (len := len) (buf := buf)
  have hL := headerLength_of_transfer (f := largeHeaderFrame cfg tag (BitVec.ofNat 16 len) (checksum buf len)) rfl hn
  have hK := headerSum_of_headerPayload (f := largeHeaderFrame cfg tag (BitVec.ofNat 16 len) (checksum buf len)) rfl
  have hbytes := List.take_left' (l₂ := List.replicate (7 * ceilDiv len 7 - len) cfg.pad) (List.length_take_of_le hlen)
  rw [largeFrames, List.tail_cons] at hdata hident
  simp only [largeFrames, receiveLarge, hL, hdata, hbytes]
  exact if_pos ⟨rfl, hident, (byteSum_take buf len).trans hK.symm⟩

end Tiers

/-- Settles O32: an accepted small transfer sends its frame list, from which the receiver recovers it. -/
theorem smallTransferReassembles : Obligations.SmallTransferReassembles :=
  fun _ _ _ _ hr hg hn hb => ⟨_, exec_fragSmall_accepted hr hg hb, receiveSmall_smallFrames hn hb⟩

/-- Settles O33: an accepted large transfer sends its frame list, from which the receiver recovers it. -/
theorem largeTransferReassembles : Obligations.LargeTransferReassembles :=
  fun _ _ _ _ hr hg _ hn hb => ⟨_, exec_fragLarge_accepted hr hg hb, receiveLarge_largeFrames hn hb⟩

/-- Settles O34: the data fragments carry the buffer and pads, and zero pads add nothing to the sum. -/
theorem zeroPadKeepsSum : Obligations.ZeroPadKeepsSum := by
  intro cfg tag buf n hpad hlen
  refine ⟨fun _ => ?_, fun _ => ?_⟩
  · rw [smallFrames_dataBytes hlen, hpad, byteSum_append_zeros, byteSum_take]
  · rw [largeFrames_dataBytes hlen, hpad, byteSum_append_zeros, byteSum_take]

end Sys2Proof.Machine
end

section
/-! The firmware handshake (spec/44_firmware_handshake.md R141 to R144): the tests its handlers compute as propositions, its two
replies byte by byte, the two ways of the bounded store, and what each row does. -/

namespace Sys2Proof.Machine

/-! ### The tests (R141, R147, R149) -/

theorem hardwareAccepts_iff {cfg : Cfg} {hw : Byte} : hardwareAccepts cfg hw = true ↔ hw.toNat ≤ cfg.hwVersion.toNat :=
  decide_eq_true_iff

theorem forcedOrDiffers_eq_decide (cfg : Cfg) (marker : Half) (version : Word) :
    forcedOrDiffers cfg marker version = decide (marker = 0xDEAD#16 ∨ version ≠ cfg.fwVersion) := by
  rw [forcedOrDiffers_eq, Bool.decide_or]

theorem forcedOrDiffers_iff {cfg : Cfg} {marker : Half} {version : Word} :
    forcedOrDiffers cfg marker version = true ↔ marker = 0xDEAD#16 ∨ version ≠ cfg.fwVersion := by
  rw [forcedOrDiffers_eq_decide, decide_eq_true_iff]

/-- Neither marked nor differing: what an init is refused on and a reboot does not reset on. -/
theorem not_forcedOrDiffers {cfg : Cfg} {marker : Half} {version : Word} (hm : marker ≠ 0xDEAD#16)
    (hv : version = cfg.fwVersion) : ¬ forcedOrDiffers cfg marker version = true :=
  fun h => (forcedOrDiffers_iff.1 h).elim hm (absurd hv)

/-! ### The replies (R53) -/

theorem ackFrame_eq_ownFrame (cfg : Cfg) : ackFrame cfg = ownFrame cfg cfg.cc.bcAck ⟨0, 0, 0, 0, 0, 0, 0⟩ :=
  mkpayload_eq_ownFrame cfg .bcAck _

theorem nakFrame_eq_ownFrame (cfg : Cfg) : nakFrame cfg = ownFrame cfg cfg.cc.bcNak ⟨0, 0, 0, 0, 0, 0, 0⟩ :=
  mkpayload_eq_ownFrame cfg .bcNak _

/-! ### The CRC store (R34, R144) -/

/-- `CRC_W` is the width of `v32`, so the truncation of R144 drops nothing (D13, log 18). -/
theorem crcValue_eq (v : Word) : crcValue v = v := BitVec.setWidth_eq v

theorem State.storeCrc_of_lt {s : State} {i : Nat} (h : i < s.cfg.crcCap) (v : BitVec Config.crcWidth) :
    s.storeCrc i v = { s with dev := { s.dev with crc := s.dev.crc.write i v } } := if_pos h

theorem State.storeCrc_of_le {s : State} {i : Nat} (h : s.cfg.crcCap ≤ i) (v : BitVec Config.crcWidth) :
    s.storeCrc i v = s := if_neg (not_lt.2 h)

/-! ### The rows on a running block -/

section Running

variable {s : State} (hs : s.dev.halted = false)
include hs

theorem exec_btSoftwareUpdateInit_running (hw : Byte) (marker : Half) (version : Word) :
    exec (.btSoftwareUpdateInit hw marker version) s =
      .next (if hardwareAccepts s.cfg hw then
          if forcedOrDiffers s.cfg marker version then (s.setUpdateActive true).send (ackFrame s.cfg)
          else (s.setUpdateActive false).send (nakFrame s.cfg)
        else s.setUpdateActive false) :=
  whileRunning_running hs

theorem exec_btRebootAll_running (marker : Half) (version : Word) :
    exec (.btRebootAll marker version) s =
      .next (if forcedOrDiffers s.cfg marker version then ((s.setMuted false).setUpdateActive false).requestReset
        else (s.setMuted false).setUpdateActive false) :=
  whileRunning_running hs

theorem exec_btSoftwareUpdateVerify_running (marker : Half) (candidate : Word) :
    exec (.btSoftwareUpdateVerify marker candidate) s =
      .next (if s.dev.firmwareUpdateActive then
          (s.setNewVersion candidate).emit (.fwVerify candidate (forcedOrDiffers s.cfg marker candidate))
        else s) :=
  whileRunning_running hs

theorem exec_btSoftwareUpdatePageCrc_running (page : Half) (crc : Word) :
    exec (.btSoftwareUpdatePageCrc page crc) s =
      .next (if s.dev.firmwareUpdateActive then s.storeCrc page.toNat (crcValue crc) else s) :=
  whileRunning_running hs

end Running

/-! ### The obligations -/

/-- Settles O11: the hardware test decides whether there is a reply, the version test which one. -/
theorem softwareUpdateInitDecides : Obligations.SoftwareUpdateInitDecides := by
  refine ⟨opcodeSelects_bt (by decide) fun _ _ _ h => by rw [selectBt, h]; rfl, fun s hw m v hs => ?_⟩
  rw [exec_btSoftwareUpdateInit_running hs, ← ackFrame_eq_ownFrame, ← nakFrame_eq_ownFrame]
  refine ⟨fun hle hacc => ?_, fun hle hm hv => ?_, fun hlt => ?_⟩
  · rw [if_pos (hardwareAccepts_iff.2 hle), if_pos (forcedOrDiffers_iff.2 hacc)]
    rfl
  · rw [if_pos (hardwareAccepts_iff.2 hle), if_neg (not_forcedOrDiffers hm hv)]
    rfl
  · rw [if_neg (mt hardwareAccepts_iff.1 (not_le.2 hlt))]
    rfl

/-- Settles O12: both flags are cleared before the version test, which alone decides on the reset. -/
theorem rebootAllClearsAndMayReset : Obligations.RebootAllClearsAndMayReset := by
  refine ⟨opcodeSelects_bt (by decide) fun _ _ _ h => by rw [selectBt, h]; rfl, fun s m v hs => ?_⟩
  rw [exec_btRebootAll_running hs]
  refine ⟨fun hacc => ?_, fun hm hv => ?_⟩
  · rw [if_pos (forcedOrDiffers_iff.2 hacc)]
    rfl
  · rw [if_neg (not_forcedOrDiffers hm hv)]
    rfl

/-- Settles O13: the active update is the only gate; the version test is handed to the hook and gates nothing. -/
theorem verifyRecordsCandidate : Obligations.VerifyRecordsCandidate := by
  refine ⟨opcodeSelects_bt (by decide) fun _ _ _ h => by rw [selectBt, h]; rfl, fun s m v hs => ?_⟩
  rw [exec_btSoftwareUpdateVerify_running hs, forcedOrDiffers_eq_decide]
  refine ⟨fun hactive => ?_, fun hidle => ?_⟩
  · rw [if_pos hactive]
    rfl
  · rw [if_neg (ne_true_of_eq_false hidle)]

/-- Settles O14: the array after the store is `Memory.write`, whose laws are the read-back, the frame and the canonical form. -/
theorem pageCrcBoundedStore : Obligations.PageCrcBoundedStore := by
  refine ⟨opcodeSelects_bt (by decide) fun _ _ _ h => by rw [selectBt, h]; rfl, fun s page v hs => ?_⟩
  rw [exec_btSoftwareUpdatePageCrc_running hs]
  refine ⟨fun hactive hlt => ?_, fun hnone => ?_⟩
  · refine ⟨s.dev.crc.write page.toNat (crcValue v), ?_,
      (Memory.read_write_same _ _ _).trans (congrArg some (crcValue_eq v)),
      fun k hk => Memory.read_write_other _ _ k _ hk, Memory.write_wf _ _ _⟩
    rw [if_pos hactive, State.storeCrc_of_lt hlt]
  · obtain hidle | hge := hnone
    · rw [if_neg (ne_true_of_eq_false hidle)]
    · rw [State.storeCrc_of_le hge, ite_self]

end Sys2Proof.Machine
end

section
/-! Error classes (spec/60_exceptions.md R155, R159): what an instruction can answer, and the one row that halts a running block. -/

namespace Sys2Proof.Machine

/-! ### Stops (R155, R33) -/

/-- A guarded step goes on: from the state given, or from the halted state unchanged. -/
theorem whileRunning_goesOn (s t : State) : ∃ u, whileRunning s t = .next u := by
  obtain ⟨_, h⟩ | ⟨_, h⟩ := whileRunning_cases (rfl : whileRunning s t = _)
  · exact ⟨s, h⟩
  · exact ⟨t, h⟩

/-- A transfer goes on, unless it is refused for its short buffer. -/
theorem transfer_goesOn_or_short (tag : Byte) (n : Word) (buf : List Byte) (frames : List OutFrame) (s : State) :
    (∃ t, transfer tag n buf frames s = .next t) ∨
      (buf.length < n.toNat ∧ transfer tag n buf frames s = .refused .shortBuffer) := by
  obtain ⟨_, h⟩ | ⟨_, _, ⟨_, h⟩ | ⟨hshort, h⟩⟩ := transfer_cases (rfl : transfer tag n buf frames s = _)
  · exact .inl ⟨s, h⟩
  · exact .inl ⟨s.sendAll frames, h⟩
  · exact .inr ⟨hshort, h⟩

/-- All that an instruction can answer: it goes on, or it is a transfer row refused for its short buffer. A row is its own answer,
a transfer or a guarded step. -/
theorem exec_goesOn_or_short (i : Instr) (s : State) :
    (∃ t, exec i s = .next t) ∨
      ∃ tag n buf, (i = .fragSmall tag n buf ∨ i = .fragLarge tag n buf) ∧ buf.length < n.toNat ∧
        exec i s = .refused .shortBuffer := by
  cases i with
  | haltedAny | rxDiscardNat | rxDiscardFrom _ | baOther _ | btOther _ | ucOther _ | fdAny _ | rxUnmatched _
  | fragRefuseState _ _ _ | fragRefuseSize _ _ _ | boot _ => exact .inl ⟨_, rfl⟩
  | fragSmall tag n buf =>
    rw [exec_fragSmall]
    exact (transfer_goesOn_or_short ..).imp_right fun hstop => ⟨tag, n, buf, .inl rfl, hstop⟩
  | fragLarge tag n buf =>
    rw [exec_fragLarge]
    exact (transfer_goesOn_or_short ..).imp_right fun hstop => ⟨tag, n, buf, .inr rfl, hstop⟩
  | tick | baIdentifyLed | baIdentifyUnknownExtensions | baExtensionOffline | baParkExtension | baSyncTicks _
  | btSoftwareUpdateInit _ _ _ | btRebootAll _ _ | btSoftwareUpdateVerify _ _ | btSoftwareUpdatePageCrc _ _ | btMuteAll
  | ucIdentify | ucIdentifyLed | ucAlive | ucExtensionOffline | ucParkExtension | ucLedFlashPosition _ | ucAliveReply
  | ucLinkDiagnosisRequest _ _ _ | ucMuteAll | fwAny _ | txStartRequest | txAlive | txAliveReply
  | txLinkDiagnosisReply _ _ _ | txBcAck | txBcNak | txFragmentSmallHeader _ _ _ | txFragmentSmallData _ _ _ _ _ _ _
  | txFragmentLargeHeader _ _ _ | txFragmentLargeData _ => exact .inl (whileRunning_goesOn s _)

/-- Settles O52: an instruction that does not go on is a transfer row refused for its short buffer. -/
theorem nothingFaults : Obligations.NothingFaults := by
  intro i s
  obtain ⟨t, ht⟩ | ⟨tag, n, buf, hrow, hshort, hstop⟩ := exec_goesOn_or_short i s
  · exact ⟨fun r => by simp [ht], fun r hr => by simp [ht] at hr⟩
  · refine ⟨fun r => by simp [hstop], fun r hr => ?_⟩
    cases hstop.symm.trans hr
    exact ⟨rfl, tag, n, buf, hrow, hshort⟩

/-! ### The halt (R159) -/

@[simp] theorem State.settleCountdown_dev_halted (s : State) : s.settleCountdown.dev.halted = s.dev.halted := by
  cases h : s.dev.countdown.written
  · rw [State.settleCountdown_unwritten h]
  · rw [State.settleCountdown_written h]

@[simp] theorem State.tickHeartbeat_dev_halted (s : State) : s.tickHeartbeat.dev.halted = s.dev.halted := by
  obtain ⟨_, h⟩ | ⟨_, _, h⟩ | ⟨_, _, h⟩ := s.tickHeartbeat_cases <;> simp [h]

@[simp] theorem State.storeCrc_dev_halted (s : State) (i : Nat) (v : BitVec Config.crcWidth) :
    (s.storeCrc i v).dev.halted = s.dev.halted := by
  obtain ⟨_, h⟩ | ⟨_, h⟩ := s.storeCrc_cases i v <;> rw [h]

/-- No instruction but `BT.reboot_all` halts a running block. -/
theorem ExecEffect.running_or_rebootAll {i : Instr} {s t : State} (h : ExecEffect i s t) (hs : s.dev.halted = false) :
    t.dev.halted = false ∨ ∃ m v, i = .btRebootAll m v := by
  cases h with
  | idle => exact .inl hs
  | quiet hq => exact .inl (hq.halted.trans hs)
  | boot cfg => exact .inl rfl
  | tick => exact .inl (by simpa using hs)
  | verify => exact .inl hs
  | pageCrc => exact .inl (by simpa using hs)
  | reset marker version => exact .inr ⟨marker, version, rfl⟩

/-- A `BT.reboot_all` that halts a running block carried the marker or a differing version, and asked for `RESET` alone (R142). -/
theorem rebootAll_of_halts {s t : State} {m : Half} {v : Word} (hs : s.dev.halted = false)
    (h : exec (.btRebootAll m v) s = .next t) (ht : t.dev.halted = true) :
    (m = 0xDEAD#16 ∨ v ≠ s.cfg.fwVersion) ∧ t.out = s.out ++ [.reset] := by
  rw [exec_btRebootAll_running hs] at h
  split at h <;> cases h
  · next hacc => exact ⟨forcedOrDiffers_iff.1 hacc, rfl⟩
  · exact absurd ht (by simp [hs])

/-- Settles O45: a step that asks for `RESET` leaves the block halted, and of a running block only the reboot that passes its
version test does that; a halted block is changed by `BOOT` alone. -/
theorem onlyRebootAllHalts : Obligations.OnlyRebootAllHalts := by
  refine ⟨fun i s t hs h hstop => ?_, fun i s t hs h ht => ?_⟩
  · have heffect := execEffect_of_exec h
    have hhalt : t.dev.halted = true := by
      obtain hhalt | ⟨as, hout, hreset⟩ := hstop
      · exact hhalt
      · exact heffect.grewWithoutReset_or_halted.resolve_left fun hgrew => hgrew.reset_not_mem hout hreset
    obtain hrun | ⟨m, v, rfl⟩ := heffect.running_or_rebootAll hs
    · exact absurd hhalt (by simp [hrun])
    · obtain ⟨hacc, hout⟩ := rebootAll_of_halts hs h hhalt
      exact ⟨m, v, rfl, hacc, hhalt, hout⟩
  · by_contra hboot
    have hsame := h.symm.trans (exec_halted hs fun cfg hi => hboot ⟨cfg, hi⟩)
    cases hsame
    simp [hs] at ht

end Sys2Proof.Machine
end

section
/-! Reset and boot (spec/10_state.md R29; spec/70_reset_and_hazards.md R180, R181): the record that `BOOT` leaves, what a
collaborator reads of it, and the tick that follows. -/

namespace Sys2Proof.Machine

/-! ### The record that `BOOT` leaves (R180, R29) -/

/-- Alone among the stimuli, `BOOT` is selected without a look at the halt (R23). -/
theorem select_boot (ctx : Context) (cfg : Cfg) : select ctx (.boot cfg) = .boot cfg := rfl

theorem exec_boot (s : State) (cfg : Cfg) : exec (.boot cfg) s = .next (s.bootWith cfg) := rfl

theorem Reg32.collaboratorRead_unwritten {r : Reg32} (h : r.written = false) :
    r.collaboratorRead = .error .unwrittenRead := by
  simp [collaboratorRead, h]

/-- An entry below the bound that holds no value is there, but unwritten (R29). -/
theorem State.readCrcEntry_unwritten {s : State} {i : Nat} (hi : i < s.cfg.crcCap) (h : s.dev.crc.read i = none) :
    s.readCrcEntry i = .error .unwrittenRead := by
  simp [readCrcEntry, hi, h]

/-- Right after `BOOT` no CRC entry holds a value, whatever the record before held. -/
theorem State.bootWith_crc_read (s : State) (cfg : Cfg) (i : Nat) : (s.bootWith cfg).dev.crc.read i = none :=
  Memory.read_nil i

/-- Settles O42: the state after `BOOT` is `State.bootWith`, whose record is `Device.atBoot`; its unwritten registers and entries
are what a collaborator finds no value in. -/
theorem bootRecreatesRecord : Obligations.BootRecreatesRecord := by
  refine ⟨select_boot, fun s cfg => ?_⟩
  obtain ⟨hserial, htype, hhw⟩ := s.bootWith_constants cfg
  have hown (h : cfg = { s.cfg with fwVersion := cfg.fwVersion }) : (s.bootWith cfg).cfg = cfg :=
    (s.bootWith_cfg cfg).trans h.symm
  have hversion : (s.bootWith cfg).readNewVersion = .error .unwrittenRead := Reg32.collaboratorRead_unwritten rfl
  have hcrc : ∀ i < (s.bootWith cfg).cfg.crcCap, (s.bootWith cfg).readCrcEntry i = .error .unwrittenRead :=
    fun i hi => State.readCrcEntry_unwritten hi (s.bootWith_crc_read cfg i)
  exact ⟨s.bootWith cfg, exec_boot s cfg, rfl, rfl, rfl, rfl, rfl, rfl, rfl, s.bootWith_crc_read cfg, rfl, hserial, htype, hhw,
    s.bootWith_fwVersion cfg, hown, s.bootWith_inbox cfg, s.bootWith_out cfg, s.bootWith_draws cfg, hversion, hcrc⟩

/-! ### The first tick after `BOOT` (R181) -/

/-- Every state accepts a `BOOT`, halted or not (R23, R180). -/
theorem step_boot {s : State} {cfg : Cfg} {rest : List Stimulus} (h : s.inbox = .boot cfg :: rest) :
    step s = .next (State.bootWith { s with inbox := rest } cfg) := by
  rw [step_cons h, select_boot, exec_boot]

/-- A tick of a running block with a start pending announces it, whatever the countdown (R112, step 1). -/
theorem exec_tick_pending {s : State} (hrun : s.dev.halted = false) (hstart : s.dev.forceStartPending = true) :
    exec .tick s = .next ((TickEffect.rearmed s.cfg .startRequest s.draws).apply s) := by
  rw [exec_tick_running hrun, hstart, tickEffect_pending]

/-- The step on the tick that follows a boot, under the configuration that the boot left. -/
theorem step_tick_bootWith (s : State) (cfg : Cfg) {rest : List Stimulus} (h : s.inbox = .tick :: rest) :
    step (s.bootWith cfg) =
      .next ((TickEffect.rearmed (s.bootWith cfg).cfg .startRequest s.draws).apply
        { s.bootWith cfg with inbox := rest }) := by
  rw [step_cons (s := s.bootWith cfg) h, select_tick (ctx := (s.bootWith cfg).context) rfl]
  exact exec_tick_pending rfl rfl

/-- A tick that re-arms leaves `N - 10`: the decrement follows in the same tick and does not wrap (R111, R112). -/
theorem TickEffect.rearmed_countdown (cfg : Cfg) (c : CommandName) (draws : Nat) :
    (rearmed cfg c draws).countdown = Reg32.holding (BitVec.ofNat 32 (rearmInterval cfg - 10)) := by
  obtain ⟨hge, _, _⟩ := rearmInterval_bounds cfg
  rw [← ofNat_sub_ten hge, rearmed]

/-- Settles O46: the boot leaves a running block with a start pending, and the tick announces it under the configuration of this
boot. -/
theorem firstTickAfterBootAnnounces : Obligations.FirstTickAfterBootAnnounces := by
  intro s cfg rest hin
  have hboot := step_boot hin
  have htick := step_tick_bootWith { s with inbox := .tick :: rest } cfg rfl
  have htwo := (State.run_succ_next 1 hboot).trans (State.run_succ_next 0 htick)
  exact ⟨_, htwo, rfl, rfl, rfl, rfl, rfl, TickEffect.rearmed_countdown _ .startRequest s.draws⟩

end Sys2Proof.Machine
end

section
/-! The byte form of the records (log 7): a reader takes the bytes of a value off the front, and takes nothing else for them. So
the reading of one record is the inverse of its writing, in both directions. -/

namespace Sys2Proof

/-! ### Fields -/

/-- An identifier written as a 32-bit value has its top three bits zero. -/
theorem toNat_setWidth_ident (ident : Ident) : (ident.setWidth 32).toNat < 2 ^ 29 := by
  rw [BitVec.toNat_setWidth_of_le (by decide)]
  exact ident.isLt

/-- A value of one bit is that bit. -/
@[simp] theorem ofBool_getElem_zero (b : BitVec 1) : BitVec.ofBool b[0] = b := by
  decide +revert

@[simp] theorem Dir.ofBit_toBit (d : Dir) : Dir.ofBit d.toBit = d := by
  cases d <;> rfl

@[simp] theorem Dir.toBit_ofBit (b : Bool) : (Dir.ofBit b).toBit = b := by
  cases b <;> rfl

@[simp] theorem flagsByte_getElem_zero (b2 b1 b0 : Bool) : (flagsByte b2 b1 b0)[0] = b0 := by
  decide +revert

@[simp] theorem flagsByte_getElem_one (b2 b1 b0 : Bool) : (flagsByte b2 b1 b0)[1] = b1 := by
  decide +revert

@[simp] theorem flagsByte_getElem_two (b2 b1 b0 : Bool) : (flagsByte b2 b1 b0)[2] = b2 := by
  decide +revert

/-- No bit above the third is set in a flags byte. -/
theorem toNat_flagsByte_lt (b2 b1 b0 : Bool) : (flagsByte b2 b1 b0).toNat < 2 ^ 3 := by
  decide +revert

/-- Without its third bit a flags byte has two. -/
theorem toNat_flagsByte_false_lt (b1 b0 : Bool) : (flagsByte false b1 b0).toNat < 2 ^ 2 := by
  decide +revert

/-- A byte of at most three bits is the flags byte of those bits. -/
theorem flagsByte_of_lt {b : Byte} (h : b.toNat < 2 ^ 3) : flagsByte (b.getLsbD 2) (b.getLsbD 1) (b.getLsbD 0) = b := by
  obtain ⟨n, rfl⟩ : ∃ n : Fin 8, b = BitVec.ofNat 8 n := ⟨⟨b.toNat, h⟩, by simp⟩
  clear h
  decide +revert

/-- A byte of at most two bits is the flags byte of those bits. -/
theorem flagsByte_false_of_lt {b : Byte} (h : b.toNat < 2 ^ 2) : flagsByte false (b.getLsbD 1) (b.getLsbD 0) = b := by
  have hbit : b.getLsbD 2 = false := Nat.testBit_lt_two_pow h
  exact hbit ▸ flagsByte_of_lt (by omega)

/-- A reader goes on with what it has answered. -/
@[simp] theorem ok_bind {α β : Type} (a : α) (k : α → Except DecodeError β) : (Except.ok a >>= k) = k a := rfl

/-! ### Reading back what was written -/

@[simp] theorem readIdent_wordBytes (ident : Ident) (rest : List Byte) :
    readIdent (wordBytes (ident.setWidth 32) ++ rest) = .ok (ident, rest) := by
  simpa [readIdent] using toNat_setWidth_ident ident

@[simp] theorem readFlags_flagsByte (b2 b1 b0 : Bool) (rest : List Byte) :
    readFlags 3 (flagsByte b2 b1 b0 :: rest) = .ok (flagsByte b2 b1 b0, rest) := by
  simpa [readFlags] using toNat_flagsByte_lt b2 b1 b0

@[simp] theorem readFlags_flagsByte_false (b1 b0 : Bool) (rest : List Byte) :
    readFlags 2 (flagsByte false b1 b0 :: rest) = .ok (flagsByte false b1 b0, rest) := by
  simpa [readFlags] using toNat_flagsByte_false_lt b1 b0

theorem readRx_rxBytes (f : RxFrame) (e : ErrCounts) (rest : List Byte) :
    readRx (rxBytes f e ++ rest) = .ok (.rx f e, rest) := by
  simp [readRx, rxBytes]

theorem readFrag_fragBytes {buf : List Byte} (hbuf : wfBuffer buf = true) (tag : Byte) (byteCount : Word)
    (rest : List Byte) : readFrag (fragBytes tag byteCount buf ++ rest) = .ok (.frag tag byteCount buf, rest) := by
  have hlen : (BitVec.ofNat 32 buf.length).toNat = buf.length :=
    (BitVec.toNat_ofNat _ _).trans (Nat.mod_eq_of_lt (of_decide_eq_true hbuf))
  simp [readFrag, fragBytes, hlen]

theorem readCodes_map_code (cc : CommandCodes) (rest : List Byte) :
    readCodes (CommandName.all.map cc.code ++ rest) = .ok (cc, rest) := rfl

theorem readOutbound_outboundBytes (f : OutFrame) (rest : List Byte) :
    readOutbound (outboundBytes f ++ rest) = .ok (f, rest) := by
  simp [readOutbound, outboundBytes]

theorem readBoot_bootBytes {cfg : Cfg} (hcfg : wfCfg cfg = true) (rest : List Byte) :
    readBoot (bootBytes cfg ++ rest) = .ok (.boot cfg, rest) := by
  simp only [wfCfg, Bool.and_eq_true, decide_eq_true_eq, Nat.reducePow] at hcfg
  obtain ⟨⟨⟨⟨⟨hcap, horphaned⟩, hidentify⟩, halive⟩, hreply⟩, hmute⟩ := hcfg
  simp [readBoot, bootBytes, readColors, readCodes_map_code, Nat.mod_eq_of_lt, *]

/-- The numbers and the buffer of the record fit the 32 bits that its bytes give them (log 7). -/
def Record.Fits : Record → Prop
  | .stimulus (.frag _ _ buf) => wfBuffer buf = true
  | .stimulus (.boot cfg) => wfCfg cfg = true
  | _ => True

/-- A record is read back from its own bytes, and what follows them is left unread. -/
theorem readRecord_recordBytes {r : Record} (h : r.Fits) (rest : List Byte) :
    readRecord (recordBytes r ++ rest) = .ok (r, rest) := by
  match r, h with
  | .stimulus .tick, _ => rfl
  | .stimulus (.rx f e), _ => simp [recordBytes, readRecord, readOperands, readRx_rxBytes]
  | .stimulus (.frag tag byteCount buf), hbuf => simp [recordBytes, readRecord, readOperands, readFrag_fragBytes hbuf]
  | .stimulus (.boot cfg), hcfg => simp [recordBytes, readRecord, readOperands, readBoot_bootBytes hcfg]
  | .outbound f, _ => simp [recordBytes, readRecord, readOperands, readOutbound_outboundBytes]

/-! ### No bit is dropped -/

/-- After the bytes `pre`, the reader takes for a value nothing but the rest of the value's bytes. -/
def ReadsExactly {α : Type} (pre : List Byte) (bytes : α → List Byte) (r : Reader α) : Prop :=
  ∀ bs a rest, r bs = .ok (a, rest) → pre ++ bs = bytes a ++ rest

namespace ReadsExactly

variable {α β : Type} {pre : List Byte} {bytes : α → List Byte} {r : Reader α}

/-- The value is complete. -/
theorem done {a : α} (h : pre = bytes a) : ReadsExactly pre bytes fun bs => .ok (a, bs) := by
  intro bs a' rest hread
  cases hread
  rw [h]

/-- A value is read, and the reader goes on after its bytes. -/
theorem andThen {bytes' : β → List Byte} {k : α × List Byte → Except DecodeError (β × List Byte)}
    (hr : ReadsExactly pre bytes r) (hk : ∀ a, ReadsExactly (bytes a) bytes' fun bs => k (a, bs)) :
    ReadsExactly pre bytes' fun bs => r bs >>= k := by
  intro bs b rest hread
  replace hread : (r bs >>= k) = .ok (b, rest) := hread
  cases hr' : r bs with
  | error e => rw [hr'] at hread; cases hread
  | ok p =>
    obtain ⟨a, mid⟩ := p
    rw [hr'] at hread
    exact (hr bs a mid hr').trans (hk a mid b rest hread)

/-- What stands before the bytes does not matter to the reader. -/
theorem after (pre : List Byte) (h : ReadsExactly [] bytes r) : ReadsExactly pre (fun a => pre ++ bytes a) r := by
  intro bs a rest hread
  rw [List.append_assoc, ← h bs a rest hread, List.nil_append]

/-- A field is read, and the reader goes on after the bytes before it and its own. -/
theorem field {bytes' : β → List Byte} {k : α × List Byte → Except DecodeError (β × List Byte)}
    (hr : ReadsExactly [] bytes r) (hk : ∀ a, ReadsExactly (pre ++ bytes a) bytes' fun bs => k (a, bs)) :
    ReadsExactly pre bytes' fun bs => r bs >>= k :=
  (hr.after pre).andThen hk

/-- A value that is read is made a part of another, whose bytes are the same. -/
theorem wrapped {wrap : α → β} {bytes' : β → List Byte} (hr : ReadsExactly pre (fun a => bytes' (wrap a)) r) :
    ReadsExactly pre bytes' fun bs => r bs >>= fun p => .ok (wrap p.1, p.2) :=
  hr.andThen fun _ => .done rfl

end ReadsExactly

/-- A checked answer is given only when the check passes. -/
theorem ok_of_guard {α : Type} {c : Prop} [Decidable c] {a b : α} {e : DecodeError}
    (h : (if c then Except.ok a else .error e) = .ok b) : c ∧ a = b := by
  split at h
  · next hc => cases h; exact ⟨hc, rfl⟩
  · cases h

theorem readByte_exactly : ReadsExactly [] (fun b => [b]) readByte := by
  intro bs b rest h
  cases bs with
  | nil => cases h
  | cons b' bs => cases h; rfl

/-- A 32-bit value put together of four bytes is written as these bytes. -/
theorem wordBytes_append (b0 b1 b2 b3 : Byte) : wordBytes (b3 ++ b2 ++ b1 ++ b0) = [b0, b1, b2, b3] := by
  have hparts := wordByte_append (b3 ++ b2 ++ b1 ++ b0)
  rw [Machine.append_inj_iff, Machine.append_inj_iff, Machine.append_inj_iff] at hparts
  obtain ⟨⟨⟨h3, h2⟩, h1⟩, h0⟩ := hparts
  rw [wordBytes, h0, h1, h2, h3]

theorem readWord_exactly : ReadsExactly [] wordBytes readWord := by
  intro bs w rest h
  match bs with
  | b0 :: b1 :: b2 :: b3 :: bs => cases h; rw [wordBytes_append]; rfl
  | [] | [_] | [_, _] | [_, _, _] => cases h

theorem readPayload_exactly : ReadsExactly [] payloadBytes readPayload := by
  intro bs p rest h
  match bs with
  | b0 :: b1 :: b2 :: b3 :: b4 :: b5 :: b6 :: bs => cases h; rfl
  | [] | [_] | [_, _] | [_, _, _] | [_, _, _, _] | [_, _, _, _, _] | [_, _, _, _, _, _] => cases h

/-- The three bits that the check holds at zero are those that the identifier's bytes have at zero. -/
theorem readIdent_exactly : ReadsExactly [] (fun ident => wordBytes (ident.setWidth 32)) readIdent := by
  refine readWord_exactly.andThen fun w bs ident rest h => ?_
  obtain ⟨hw, hident⟩ := ok_of_guard h
  cases hident
  rw [BitVec.setWidth_setWidth_eq_self hw]

/-- Whatever writes back a flags byte that passes the check, the reader takes its bytes. -/
theorem readFlags_exactly {n : Nat} {bytes : Byte → List Byte} (hbytes : ∀ b, b.toNat < 2 ^ n → bytes b = [b]) :
    ReadsExactly [] bytes (readFlags n) := by
  refine readByte_exactly.andThen fun b bs fl rest h => ?_
  obtain ⟨hb, hfl⟩ := ok_of_guard h
  cases hfl
  rw [hbytes b hb]

theorem readFlags_three_exactly :
    ReadsExactly [] (fun fl => [flagsByte (fl.getLsbD 2) (fl.getLsbD 1) (fl.getLsbD 0)]) (readFlags 3) :=
  readFlags_exactly fun _ h => by rw [flagsByte_of_lt h]

theorem readFlags_two_exactly :
    ReadsExactly [] (fun fl => [flagsByte false (fl.getLsbD 1) (fl.getLsbD 0)]) (readFlags 2) :=
  readFlags_exactly fun _ h => by rw [flagsByte_false_of_lt h]

theorem readRx_exactly : ReadsExactly [0x01#8] (fun st => recordBytes (.stimulus st)) readRx := by
  refine .field readIdent_exactly fun ident => .field readFlags_three_exactly fun fl => .field readByte_exactly fun cmd =>
    .field readPayload_exactly fun p => .field readWord_exactly fun rxErr => .field readWord_exactly fun txErr =>
    .field readWord_exactly fun totErr => .done ?_
  simp [recordBytes, rxBytes]

/-- The buffer is as many bytes as its count says, so the count written back is the one read. -/
theorem readFrag_exactly : ReadsExactly [0x02#8] (fun st => recordBytes (.stimulus st)) readFrag := by
  refine .field readByte_exactly fun tag => .field readWord_exactly fun byteCount => .field readWord_exactly fun n => ?_
  intro bs st rest h
  obtain ⟨hn, hst⟩ := ok_of_guard h
  cases hst
  simp [recordBytes, fragBytes, hn]

theorem readCodes_exactly : ReadsExactly [] (fun cc => CommandName.all.map cc.code) readCodes := by
  unfold readCodes
  iterate 22 refine .field readByte_exactly fun _ => ?_
  exact .done (by simp [CommandName.all, CommandCodes.code])

theorem readColors_exactly :
    ReadsExactly []
      (fun pc => wordBytes (BitVec.ofNat 32 pc.orphaned) ++ wordBytes (BitVec.ofNat 32 pc.identify) ++
        wordBytes (BitVec.ofNat 32 pc.alive) ++ wordBytes (BitVec.ofNat 32 pc.aliveReply) ++
        wordBytes (BitVec.ofNat 32 pc.mute)) readColors := by
  refine .field readWord_exactly fun orphaned => .field readWord_exactly fun identify => .field readWord_exactly fun alive =>
    .field readWord_exactly fun aliveReply => .field readWord_exactly fun mute => .done ?_
  simp

theorem readBoot_exactly : ReadsExactly [0x03#8] (fun st => recordBytes (.stimulus st)) readBoot := by
  refine .field readWord_exactly fun serial => .field readByte_exactly fun deviceType =>
    .field readByte_exactly fun hwVersion => .field readWord_exactly fun fwVersion => .field readWord_exactly fun crcCap =>
    .field readByte_exactly fun tag => .field readByte_exactly fun pad => .field readFlags_two_exactly fun fl =>
    .field readCodes_exactly fun cc => .field readColors_exactly fun colors => .done ?_
  simp [recordBytes, bootBytes]

theorem readOutbound_exactly : ReadsExactly [0x04#8] (fun f => recordBytes (.outbound f)) readOutbound := by
  refine .field readIdent_exactly fun ident => .field readFlags_two_exactly fun fl => .field readByte_exactly fun cmd =>
    .field readPayload_exactly fun p => .done ?_
  simp [recordBytes, outboundBytes]

/-- The port's number chooses the reader, and no other number is read. -/
theorem readOperands_exactly (k : Byte) : ReadsExactly [k] recordBytes (readOperands k) := by
  intro bs r rest h
  unfold readOperands at h
  split_ifs at h with htick hrx hfrag hboot houtbound
  · subst htick
    cases h
    rfl
  · subst hrx
    exact readRx_exactly.wrapped (wrap := .stimulus) (bytes' := recordBytes) bs r rest h
  · subst hfrag
    exact readFrag_exactly.wrapped (wrap := .stimulus) (bytes' := recordBytes) bs r rest h
  · subst hboot
    exact readBoot_exactly.wrapped (wrap := .stimulus) (bytes' := recordBytes) bs r rest h
  · subst houtbound
    exact readOutbound_exactly.wrapped (wrap := .outbound) (bytes' := recordBytes) bs r rest h

/-- Settles O57: the record's first byte chooses the reader of its operands, and no reader drops a bit. -/
theorem everyRecordHasOneEncoding : Obligations.EveryRecordHasOneEncoding := by
  intro bs rest r h
  cases bs with
  | nil => cases h
  | cons k bs => exact readOperands_exactly k bs r rest h

end Sys2Proof
end

section
/-! The row of an instruction's own record (spec/00_scope.md R64, R65; log 7): a well formed instruction is the row that its
record selects, so what the encoder writes the decoder reads. -/

namespace Sys2Proof.Machine

/-! ### Well-formedness -/

section

variable {ctx : Context} {n : CommandName}

theorem wfBa_iff :
    wfBa ctx n = true ↔ ctx.halted = false ∧ nameAmong ctx.cfg.cc baNames (ctx.cfg.cc.code n) = some n := by
  simp [wfBa, namedBy]

theorem reachesBt_iff :
    reachesBt ctx = true ↔ ctx.halted = false ∧ classify ctx.cfg (btIdent ctx.cfg) = some .bt := by
  simp [reachesBt]

theorem wfBt_iff :
    wfBt ctx n = true ↔ reachesBt ctx = true ∧ nameAmong ctx.cfg.cc btNames (ctx.cfg.cc.code n) = some n := by
  simp [wfBt, namedBy]

theorem reachesUc_iff :
    reachesUc ctx = true ↔ ctx.halted = false ∧ classify ctx.cfg (ucIdent ctx.cfg) = some .uc := by
  simp [reachesUc]

theorem wfUc_iff :
    wfUc ctx n = true ↔ reachesUc ctx = true ∧ nameAmong ctx.cfg.cc ucNames (ctx.cfg.cc.code n) = some n := by
  simp [wfUc, namedBy]

theorem wfTx_iff : wfTx ctx n = true ↔ nameAmong ctx.cfg.cc txNames (ctx.cfg.cc.code n) = some n := by
  simp [wfTx, namedBy]

/-- A well formed instruction's record fits its bytes: a request's buffer and a boot's configuration do. -/
theorem fits_recordOf {i : Instr} (h : i.wf ctx = true) : (recordOf ctx.cfg i).Fits := by
  cases i with
  | fragRefuseState tag byteCount buf | fragRefuseSize tag byteCount buf | fragSmall tag byteCount buf
  | fragLarge tag byteCount buf =>
    have hbuf : wfBuffer buf = true := by simp_all [Instr.wf]
    exact hbuf
  | boot cfg => exact h
  | _ => trivial

end

/-! ### Inbound records -/

section

variable {ctx : Context} {ident : Ident} {cmd a8 : Byte} {a16 : Half} {a32 : Word} {row : Instr}

theorem rowOf_stimulus (st : Stimulus) : rowOf ctx (.stimulus st) = .ok (select ctx st) := rfl

/-- A frame to the device that is no NAT artifact is let through (R71). -/
theorem discards_toDevice {f : RxFrame} (hnat : f.isNat = false) (hdir : f.dir = .toDevice) : discards f = false :=
  discards_eq_false_iff.2 ⟨hnat, .inr hdir⟩

/-- Identifier 0 is of form BA, which is tested first (R72). -/
theorem classify_baIdent (cfg : Cfg) : classify cfg baIdent = some .ba := by
  simp [classify, baIdent, idWord]

/-- An inbound record of form BA is routed by its command. -/
theorem rowOf_rxRecord_ba (hrun : ctx.halted = false)
    (hrow : ∀ f, f.cmd = cmd → f.p = Payload.ofScalars a8 a16 a32 → selectBa ctx.cfg.cc f = row) :
    rowOf ctx (rxRecord baIdent cmd a8 a16 a32) = .ok row := by
  rw [rxRecord, rowOf_stimulus, select_rx_ba _ hrun (discards_toDevice rfl rfl) (classify_baIdent _), hrow _ rfl rfl]

theorem rowOf_rxRecord_bt (h : reachesBt ctx = true)
    (hrow : ∀ f, f.cmd = cmd → f.p = Payload.ofScalars a8 a16 a32 → selectBt ctx.cfg.cc f = row) :
    rowOf ctx (rxRecord (btIdent ctx.cfg) cmd a8 a16 a32) = .ok row := by
  obtain ⟨hrun, hc⟩ := reachesBt_iff.1 h
  rw [rxRecord, rowOf_stimulus, select_rx_bt, hrow _ rfl rfl]
  exacts [hrun, discards_toDevice rfl rfl, hc]

theorem rowOf_rxRecord_uc (h : reachesUc ctx = true)
    (hrow : ∀ f e, f.cmd = cmd → f.p = Payload.ofScalars a8 a16 a32 → selectUc ctx.cfg.cc f e = row) :
    rowOf ctx (rxRecord (ucIdent ctx.cfg) cmd a8 a16 a32) = .ok row := by
  obtain ⟨hrun, hc⟩ := reachesUc_iff.1 h
  rw [rxRecord, rowOf_stimulus, select_rx_uc, hrow _ _ rfl rfl]
  exacts [hrun, discards_toDevice rfl rfl, hc]

end

/-! ### Outbound records -/

/-- A frame that the block builds is told by its command (R65). -/
theorem decodeOutbound_mkpayload {cfg : Cfg} {n : CommandName} (h : nameAmong cfg.cc txNames (cfg.cc.code n) = some n)
    (p : Payload) : decodeOutbound cfg (mkpayload cfg n p) = outboundRow cfg n p := by
  simp [decodeOutbound, mkpayload, fdIdent, h]

/-- The record of a format selects the row that the format's command and payload give. -/
theorem rowOf_outbound {ctx : Context} {n : CommandName} {p : Payload} {row : Instr} (hn : wfTx ctx n = true)
    (hrow : outboundRow ctx.cfg n p = some row) : rowOf ctx (.outbound (mkpayload ctx.cfg n p)) = .ok row := by
  simp only [rowOf, decodeOutbound_mkpayload (wfTx_iff.1 hn), hrow]

/-! ### Every instruction -/

/-- A well formed instruction is the row of its record. -/
theorem rowOf_recordOf {ctx : Context} {i : Instr} (h : i.wf ctx = true) : rowOf ctx (recordOf ctx.cfg i) = .ok i := by
  cases i with
  | baIdentifyLed | baIdentifyUnknownExtensions | baExtensionOffline | baParkExtension | baSyncTicks _ =>
    obtain ⟨hrun, hname⟩ := wfBa_iff.1 h
    exact rowOf_rxRecord_ba hrun fun f hcmd hp => by simp [selectBa, hcmd, hname, hp]
  | btSoftwareUpdateInit _ _ _ | btRebootAll _ _ | btSoftwareUpdateVerify _ _ | btSoftwareUpdatePageCrc _ _ | btMuteAll =>
    obtain ⟨hreach, hname⟩ := wfBt_iff.1 h
    exact rowOf_rxRecord_bt hreach fun f hcmd hp => by simp [selectBt, hcmd, hname, hp]
  | ucIdentify | ucIdentifyLed | ucAlive | ucExtensionOffline | ucParkExtension | ucLedFlashPosition _ | ucAliveReply
  | ucMuteAll =>
    obtain ⟨hreach, hname⟩ := wfUc_iff.1 h
    exact rowOf_rxRecord_uc hreach fun f e hcmd hp => by simp [selectUc, hcmd, hname, hp]
  | ucLinkDiagnosisRequest rxErr txErr totErr =>
    obtain ⟨hreach, hname⟩ := wfUc_iff.1 h
    obtain ⟨hrun, hc⟩ := reachesUc_iff.1 hreach
    rw [recordOf, rowOf_stimulus, select_rx_uc _ hrun (discards_toDevice rfl rfl) hc, selectUc, hname]
  | baOther cmd =>
    obtain ⟨hrun, hname⟩ : ctx.halted = false ∧ nameAmong ctx.cfg.cc baNames cmd = none := by simpa [Instr.wf] using h
    exact rowOf_rxRecord_ba hrun fun f hcmd _ => by simp [selectBa, hcmd, hname]
  | btOther cmd =>
    obtain ⟨hreach, hname⟩ : reachesBt ctx = true ∧ nameAmong ctx.cfg.cc btNames cmd = none := by
      simpa [Instr.wf] using h
    exact rowOf_rxRecord_bt hreach fun f hcmd _ => by simp [selectBt, hcmd, hname]
  | ucOther cmd =>
    obtain ⟨hreach, hname⟩ : reachesUc ctx = true ∧ nameAmong ctx.cfg.cc ucNames cmd = none := by
      simpa [Instr.wf] using h
    exact rowOf_rxRecord_uc hreach fun f e hcmd _ => by simp [selectUc, hcmd, hname]
  | haltedAny => rw [recordOf, rowOf_stimulus, select_halted h (by simp)]
  | rxDiscardNat =>
    have hrun : ctx.halted = false := by simpa [Instr.wf] using h
    rw [recordOf, rowOf_stimulus, select_rx_discarded _ hrun rfl, if_pos rfl]
  | rxDiscardFrom ident =>
    obtain ⟨hrun, hident⟩ : ctx.halted = false ∧ ident ≠ 0#29 := by simpa [Instr.wf] using h
    rw [recordOf, rowOf_stimulus, select_rx_discarded _ hrun (discards_eq_true_iff.2 (.inr ⟨hident, rfl⟩)),
      if_neg (by simp)]
  | fdAny cmd =>
    obtain ⟨hrun, hc⟩ : ctx.halted = false ∧ classify ctx.cfg (fdIdent ctx.cfg) = some .fd := by simpa [Instr.wf] using h
    rw [recordOf, rxRecord, rowOf_stimulus, select_rx_fd _ hrun (discards_toDevice rfl rfl) hc]
  | fwAny f =>
    obtain ⟨⟨hrun, hf⟩, hc⟩ : (ctx.halted = false ∧ discards f = false) ∧ classify ctx.cfg f.ident = some .fw := by
      simpa [Instr.wf] using h
    rw [recordOf, rowOf_stimulus, select_rx_fw _ hrun hf hc]
  | rxUnmatched ident =>
    obtain ⟨hrun, hc⟩ : ctx.halted = false ∧ classify ctx.cfg ident = none := by simpa [Instr.wf] using h
    rw [recordOf, rxRecord, rowOf_stimulus, select_rx_unmatched _ hrun (discards_toDevice rfl rfl) hc]
  | tick =>
    have hrun : ctx.halted = false := by simpa [Instr.wf] using h
    rw [recordOf, rowOf_stimulus, select_tick hrun]
  | fragRefuseState tag byteCount buf =>
    obtain ⟨⟨hrun, hgate⟩, _⟩ : (ctx.halted = false ∧ fragGate ctx.cfg ctx.online tag = false) ∧
        wfBuffer buf = true := by
      simpa [Instr.wf] using h
    rw [recordOf, rowOf_stimulus, select_frag hrun, selectFrag_closed hgate]
  | fragRefuseSize tag byteCount buf =>
    simp only [Instr.wf, Bool.and_eq_true, Bool.not_eq_true', decide_eq_true_eq] at h
    obtain ⟨⟨⟨hrun, hgate⟩, hsize⟩, _⟩ := h
    rw [recordOf, rowOf_stimulus, select_frag hrun, selectFrag_oversize hgate hsize]
  | fragSmall tag byteCount buf =>
    simp only [Instr.wf, Bool.and_eq_true, Bool.not_eq_true', decide_eq_true_eq] at h
    obtain ⟨⟨⟨⟨hrun, hgate⟩, hsize⟩, _⟩, _⟩ := h
    rw [recordOf, rowOf_stimulus, select_frag hrun, selectFrag_small hgate hsize]
  | fragLarge tag byteCount buf =>
    simp only [Instr.wf, Bool.and_eq_true, Bool.not_eq_true', decide_eq_true_eq] at h
    obtain ⟨⟨⟨⟨⟨hrun, hgate⟩, hlo⟩, hhi⟩, _⟩, _⟩ := h
    rw [recordOf, rowOf_stimulus, select_frag hrun, selectFrag_large hgate hlo hhi]
  | boot cfg => rfl
  | txStartRequest | txAlive | txAliveReply => exact rowOf_outbound h (if_pos rfl)
  | txBcAck | txBcNak => exact rowOf_outbound (p := Payload.ofScalars 0#8 0#16 0#32) h (by simp [outboundRow])
  | txLinkDiagnosisReply rxErr txErr totErr => exact rowOf_outbound h (by simp [outboundRow])
  | txFragmentLargeData p => exact rowOf_outbound h rfl
  | txFragmentSmallHeader tag len sum =>
    obtain ⟨hn, hlen⟩ : wfTx ctx .fragmentedPackage = true ∧ len.toNat ≤ Config.smallMax := by simpa [Instr.wf] using h
    exact rowOf_outbound hn (by simp [outboundRow, headerPayload, hlen])
  | txFragmentSmallData index d0 d1 d2 d3 d4 d5 =>
    obtain ⟨hn, hindex⟩ : wfTx ctx .fragmentedPackage = true ∧ index ≠ 0#8 := by simpa [Instr.wf] using h
    exact rowOf_outbound hn (if_neg hindex)
  | txFragmentLargeHeader tag len sum =>
    obtain ⟨hn, hlen⟩ : wfTx ctx .fragmentedLargeHeader = true ∧ Config.smallMax < len.toNat := by
      simpa [Instr.wf] using h
    exact rowOf_outbound hn (by simp [outboundRow, headerPayload, hlen])

/-- Settles O56: the record of a well formed instruction is read back from its bytes, and its row is the instruction. -/
theorem decodeEncodeRoundTrip : Obligations.DecodeEncodeRoundTrip := by
  intro ctx i rest h
  simp [encode, decode, readRecord_recordBytes (fits_recordOf h), rowOf_recordOf h]

end Sys2Proof.Machine
end

section
/-! The outbound formats as rows (spec/30_encoding.md R51 to R57; log 9), the tick on an unwritten countdown (log 5), the state
right after reset (spec/10_state.md R29; logs 2 and 4), and words written out (log 7). -/

namespace Sys2Proof.Machine

/-! ### The outbound formats (R51 to R57) -/

/-- The diagnosis reply whose scalars are given, field by field (R52). -/
theorem diagnosisFrame_eq_ownFrame_scalars (cfg : Cfg) (r : Byte) (t : Half) (e : Word) :
    diagnosisFrame cfg r t e =
      ownFrame cfg cfg.cc.linkDiagnosisReply
        { p0 := r, p1 := t.extractLsb' 0 8, p2 := t.extractLsb' 8 8, p3 := e.extractLsb' 0 8, p4 := e.extractLsb' 8 8,
          p5 := e.extractLsb' 16 8, p6 := e.extractLsb' 24 8 } :=
  mkpayload_eq_ownFrame cfg .linkDiagnosisReply (Payload.ofScalars r t e)

/-- A row that hands one frame to `send` does so on a running block, and nothing else (log 9). -/
theorem whileRunning_send {s : State} (hs : s.dev.halted = false) {f g : OutFrame} (hf : f = g) :
    whileRunning s (s.send f) = .next { s with out := s.out ++ [.tx g] } := by
  rw [whileRunning_running hs, hf]
  rfl

/-- Settles O38: each row hands the heartbeat of its command to `send`. -/
theorem heartbeatFormats : Obligations.HeartbeatFormats :=
  fun s hs => ⟨whileRunning_send hs (heartbeatFrame_eq_ownFrame s.cfg .startRequest),
    whileRunning_send hs (heartbeatFrame_eq_ownFrame s.cfg .alive),
    whileRunning_send hs (heartbeatFrame_eq_ownFrame s.cfg .aliveReply)⟩

/-- Settles O39: each row hands its reply to `send`. -/
theorem replyFormats : Obligations.ReplyFormats :=
  fun s r t e hs => ⟨whileRunning_send hs (diagnosisFrame_eq_ownFrame_scalars s.cfg r t e),
    whileRunning_send hs (ackFrame_eq_ownFrame s.cfg), whileRunning_send hs (nakFrame_eq_ownFrame s.cfg)⟩

/-- Settles O40: each row hands its fragment to `send`. -/
theorem fragmentFormats : Obligations.FragmentFormats :=
  fun s tag _ _ _ _ _ _ _ len sum p hs =>
    ⟨whileRunning_send hs (smallHeaderFrame_eq_ownFrame s.cfg tag len sum),
      whileRunning_send hs (mkpayload_eq_ownFrame s.cfg .fragmentedPackage _),
      whileRunning_send hs (largeHeaderFrame_eq_ownFrame s.cfg tag len sum),
      whileRunning_send hs (mkpayload_eq_ownFrame s.cfg .fragmentedLargeData p)⟩

/-! ### The tick on an unwritten countdown (log 5) -/

/-- Deciding by a value leaves the countdown written and draws no free value beyond those counted. -/
theorem TickEffect.ofValue_written_draws (cfg : Cfg) (v : Word) (draws : Nat) :
    (ofValue cfg v draws).countdown.written = true ∧ (ofValue cfg v draws).draws = draws := by
  obtain hv | hv := le_or_gt v.toInt 0
  · rw [ofValue_expired hv]
    exact ⟨rfl, rfl⟩
  · rw [ofValue_counting hv]
    exact ⟨rfl, rfl⟩

/-- A tick with no start pending and the countdown written decides by the countdown's value (R112). -/
theorem exec_tick_written {s : State} (hs : s.dev.halted = false) (hno : s.dev.forceStartPending = false)
    (hw : s.dev.countdown.written = true) :
    exec .tick s = .next ((TickEffect.ofValue s.cfg s.dev.countdown.bits s.draws).apply s) := by
  rw [exec_tick_running hs, hno, tickEffect_written hw]

/-- A tick with no start pending and the countdown unwritten decides by a free value (log 5). -/
theorem exec_tick_unwritten {s : State} (hs : s.dev.halted = false) (hno : s.dev.forceStartPending = false)
    (hw : s.dev.countdown.written = false) :
    exec .tick s =
      .next ((TickEffect.ofValue s.cfg (Config.unwrittenCountdown s.draws) (s.draws + 1)).apply s) := by
  rw [exec_tick_running hs, hno, tickEffect_unwritten hw]

/-- Settles O23: a tick decides alike by the free value and by that value written, and leaves the countdown written. -/
theorem unwrittenCountdownReadsFree : Obligations.UnwrittenCountdownReadsFree := by
  intro s hs hno hw
  obtain ⟨hwritten, hdraws⟩ :=
    TickEffect.ofValue_written_draws s.cfg (Config.unwrittenCountdown s.draws) (s.draws + 1)
  refine ⟨?_, _, exec_tick_unwritten hs hno hw, hdraws, hwritten⟩
  exact (exec_tick_unwritten hs hno hw).trans (exec_tick_written (s := { s with
    dev := { s.dev with countdown := { bits := Config.unwrittenCountdown s.draws, written := true } },
    draws := s.draws + 1 }) hs hno rfl).symm

/-! ### The state right after reset (R29, R180) -/

/-- Booting the state right after reset under its own configuration leaves that state (log 2). -/
theorem State.reset_bootWith : State.reset.bootWith Cfg.tc0 = State.reset := rfl

/-- Settles O43: the state right after reset is what `BOOT` leaves, and its unwritten registers and entries hold no value. -/
theorem resetStateIsBootRecord : Obligations.ResetStateIsBootRecord :=
  ⟨rfl, rfl, Reg32.collaboratorRead_unwritten rfl, fun i hi => State.readCrcEntry_unwritten hi (Memory.read_nil i),
    (exec_boot State.reset Cfg.tc0).trans (congrArg _ State.reset_bootWith)⟩

/-- Settles O55: the state right after reset is what `BOOT` leaves, which meets the invariant. -/
theorem resetMeetsInvariant : Obligations.ResetMeetsInvariant :=
  State.bootWith_inv State.reset Cfg.tc0

/-! ### Words written out (log 7) -/

/-- Settles O58: closed words in the context right after reset, so the decoder is run on each. -/
theorem writtenWordsDecode : Obligations.WrittenWordsDecode :=
  ⟨by decide, by decide, by decide, by decide, by decide, by decide, by decide⟩

end Sys2Proof.Machine
end
